-- ==== Sys2Proof/Word.lean ====
section
/-! DEFINITION. The word type of the MDL-36: the byte that both CAN links carry. Everything computed
from bytes (byte order, two's complement, fields of a payload) stands in `Machine/Arith.lean` and
`Machine/Operands.lean`. -/
namespace Sys2Proof

/-- One data byte of a CAN frame (R186, R195, R199). -/
abbrev Byte := BitVec 8

end Sys2Proof
end

