-- ==== Sys2Proof/Syntax.lean ====
section
/-! DEFINITION. The commands of the block: one constructor of `Instr` for each row of
`spec/opcode_table.json`, in the table's order, with the operands the spec gives the row. -/
namespace Sys2Proof

/-- The four requesters of the plan link ("Who talks to the part"; R186). -/
inductive Requester where
  | console
  | planTerminal
  | leftPanel
  | rightPanel
  deriving DecidableEq, Repr, Inhabited

/-- The two sides of the drum. -/
inductive Side where
  | left
  | right
  deriving DecidableEq, Repr, Inhabited

/-- The two phases of the travel encoder (R38): the input whose level changes. -/
inductive EncoderInput where
  | encA
  | encB
  deriving DecidableEq, Repr, Inhabited

/-- The two outside sources of a reset (R197): the supply gives a cold reset, RESETn low for 2 µs or
more a warm one. (RESTART, the third source, has a row of its own.) -/
inductive ResetSource where
  | supply
  | resetPin
  deriving DecidableEq, Repr, Inhabited

/-- A frame as a CAN bus delivers it (R186, R195): the marks that decide whether the part takes it,
its identifier and its data bytes. -/
structure CanFrame where
  /-- a frame with a 29-bit identifier -/
  extended : Bool
  /-- a remote frame -/
  remote : Bool
  /-- a frame in the flexible data-rate format -/
  fd : Bool
  ident : Nat
  data : List Byte
  deriving DecidableEq, Repr, Inhabited

/-- A request frame as the receive queue holds it (R187): whose it is and its data bytes. -/
structure Frame where
  requester : Requester
  data : List Byte
  deriving DecidableEq, Repr, Inhabited

/-- A taken request frame whose code is known (the constructor that carries it says which): its
requester, its tag, its payload length byte, and the data bytes after the header (R186). -/
structure Request where
  requester : Requester
  tag : Byte
  plen : Byte
  body : List Byte
  deriving DecidableEq, Repr, Inhabited

/-- The commands: the 50 named requests, each the taking of one request frame (R187, R188), and the
24 events of the links, the sensors, the timers and the resets. -/
inductive Instr where
  -- zones (Chapter 1)
  | insertZone (r : Request)
  | amendZone (r : Request)
  | suspendZone (r : Request)
  | reinstateZone (r : Request)
  | retireZone (r : Request)
  | readZone (r : Request)
  | findZone (r : Request)
  | listZones (r : Request)
  -- marks (Chapter 1)
  | insertMark (r : Request)
  | amendMark (r : Request)
  | retireMark (r : Request)
  | readMark (r : Request)
  | listMarks (r : Request)
  | clearPlan (r : Request)
  -- geometry and station (Chapter 2)
  | writeGeometry (r : Request)
  | readGeometry (r : Request)
  | fixStation (r : Request)
  | setTravelSense (r : Request)
  | readStation (r : Request)
  -- channels and roles (Chapter 4)
  | configureChannel (r : Request)
  | clearChannel (r : Request)
  | readChannel (r : Request)
  | assignRole (r : Request)
  | readRoles (r : Request)
  | setZero (r : Request)
  -- sides (Chapter 5)
  | engage (r : Request)
  | disengage (r : Request)
  | jog (r : Request)
  | reference (r : Request)
  | setSideMode (r : Request)
  | setTrim (r : Request)
  | readSide (r : Request)
  -- banks (Chapter 6)
  | writeBank (r : Request)
  | readBank (r : Request)
  -- governor (Chapter 7)
  | setAdvanceCap (r : Request)
  | readGovernor (r : Request)
  -- conveyor (Chapter 8)
  | conveyorStart (r : Request)
  | conveyorStop (r : Request)
  | setBeltMode (r : Request)
  | truckAway (r : Request)
  | truckReady (r : Request)
  | setTruckTarget (r : Request)
  | clearBlock (r : Request)
  | clearTotals (r : Request)
  | readConveyor (r : Request)
  -- notices (Chapter 9)
  | readNotices (r : Request)
  | acknowledgeNotices (r : Request)
  | setNoticeMask (r : Request)
  -- link (Chapter 10)
  | presence (r : Request)
  | restart (r : Request)
  -- events of the plan link (Chapter 10)
  /-- a frame reaches the plan link -/
  | requestArrival (f : CanFrame)
  /-- a frame that is too short or whose code is unknown is taken -/
  | malformedFrameTaken (f : Frame)
  | responseSent
  | responseDiscard
  | statusBroadcast
  | broadcastSent
  | supervisionExpiry
  -- events of the sensor link (Chapters 4, 7 and 10)
  /-- a frame reaches the sensor link -/
  | readingMessage (f : CanFrame)
  | freshnessExpiry (n : Fin 8)
  | ceilingMessageSent
  -- the travel encoder (Chapter 2)
  /-- the level of one encoder input changes -/
  | encoderCount (e : EncoderInput)
  | encoderDoubleStep
  | speedWindowExpiry
  -- the side intervals (Chapters 5 and 6)
  | sideIntervalExpiry (x : Side)
  | jogLeaseExpiry (x : Side)
  | settleDwellExpiry (x : Side)
  -- the governor and the conveyor (Chapters 7 and 8)
  | governorIntervalExpiry
  | loadWindowExpiry
  | conveyorIntervalExpiry
  | runOnExpiry
  -- resets (Chapter 10)
  | resetAssert (src : ResetSource)
  | restartResetStart
  /-- the levels of DCLASS1, DCLASS0, ENCA and ENCB at the release -/
  | coldResetRelease (dclass1 dclass0 encA encB : Bool)
  /-- the levels of ENCA and ENCB at the release -/
  | warmResetRelease (encA encB : Bool)
  deriving DecidableEq, Repr

end Sys2Proof
end

