-- ==== Sys2Proof/Decode.lean ====
section
/-! DEFINITION. The command a word of the opcode table's bits spells. No row of the table gives bits
(every row's "fields" is empty): the commands come as CAN frames, level changes and expiries, whose
layouts stand in `Machine/Operands.lean`. -/
namespace Sys2Proof

/-- The command a table word spells: none, since no row gives bits. -/
def decodeTableWord (_nbits _w : Nat) : Option Instr := none

end Sys2Proof
end

