-- ==== Sys2Proof/Config.lean ====
section
/-! DEFINITION. The fixed figures of the part: table sizes, limits and timer lengths, each from the
rule it names. The spec leaves no result of a command open, so there is no free value here. -/
namespace Sys2Proof.Config

/-- Zone numbers are 1..64 (R3). -/
def zoneNumbers : Nat := 64

/-- Mark numbers are 1..32 (R21). -/
def markNumbers : Nat := 32

/-- The highest station, in cm (R4, R37, R40). -/
def stationMax : Nat := 9999999

/-- The fine remainder at which a carry is made, in µm (R39). -/
def carryAt : Nat := 10000

/-- A station fix under plan control may move S by at most this, in cm (R43). -/
def fixWindow : Nat := 200

/-- Entries in one LIST response (R15, R28), and entries in its first segment (R191). -/
def listEntries : Nat := 12
def segmentEntries : Nat := 6

/-- Frames the receive queue holds (R187). -/
def queueDepth : Nat := 4

/-- The console supervision time, in ms (R193). -/
def supervisionMs : Nat := 1500

/-- How long a response may stand in its slot, in ms (R190). -/
def responseMs : Nat := 100

/-- The identifiers of the status broadcast on the plan link (R192) and of the ceiling message on the sensor
link (R196). -/
def broadcastIdent : Nat := 0x380
def ceilingIdent : Nat := 0x4F0

/-- The period of the status broadcast, in ms (R192). -/
def broadcastMs : Nat := 100

/-- The length of a jog lease, in ms (R103). -/
def leaseMs : Nat := 250

/-- The unit of a freshness timeout, in ms (R73). -/
def freshnessUnitMs : Nat := 50

/-- The side interval, in ms (R97), and the unit of a settle dwell, in ms (R130). -/
def sideIntervalMs : Nat := 20
def dwellUnitMs : Nat := 100

/-- The governor interval and the load window (R137), the conveyor interval (R155) and the speed window
(R42), in ms. -/
def governorMs : Nat := 50
def loadWindowMs : Nat := 500
def conveyorMs : Nat := 100
def speedWindowMs : Nat := 100

/-- The stall level of a load window, in percent (R147). -/
def stallLoad : Nat := 98

/-- The highest operator cap, in mm/s (R142). -/
def capMax : Nat := 600

/-- The highest truck target, in litres (R167). -/
def truckTargetMax : Nat := 40000

/-- Where the truck counter stops (R165) and where the milled total clears itself (R173), in 0.01 L. -/
def truckCounterMax : Nat := 999999999
def milledMax : Nat := 999999999999

/-- Consecutive judged intervals that make a block (R171). -/
def blockIntervals : Nat := 10

/-- Cycles of one PWM period (R117, R174). -/
def pwmPeriod : Nat := 1200

/-- The cutting width W in mm of a drum class (R31). -/
def drumWidth : Fin 4 → Nat
  | 0 => 1000
  | 1 => 1500
  | 2 => 2000
  | 3 => 2200

/-- The cutting radius R in mm of a drum class (R31). -/
def drumRadius : Fin 4 → Nat
  | 0 => 490
  | 1 => 510
  | 2 => 560
  | 3 => 560

/-- The maximum cut depth in 0.1 mm of a drum class (R31). -/
def drumMax : Fin 4 → Nat
  | 0 => 3200
  | 1 => 3300
  | 2 => 3500
  | 3 => 3500

end Sys2Proof.Config
end

