-- ==== Sys2Proof/Machine/State.lean ====
section
/-! DEFINITION. The state of the MDL-36: every record, mode, counter, slot and latch the spec gives its
twelve blocks, the reset that is held, and the queue of commands that wait. Quantities are integers in
the spec's own units (Introduction, "Quantities and units"): `Nat` where the spec's range has no sign,
`Int` where it has one or where a rule computes with signed values. -/
namespace Sys2Proof.Machine

/-- A model answers no fault: the spec gives every command an effect or answers it with a status.
The type has no constructor, so no step can stop with one (safe: nothing is left out by a fault). -/
inductive Fault where
  deriving DecidableEq, Repr

/-- A refusal of the model. -/
inductive Refusal where
  /-- Raised only by an arm of `exec` whose command has no meaning yet (there is none); safe. -/
  | notModelled (mnemonic : String)
  deriving DecidableEq, Repr

/-! ### Values held in records -/

/-- The two kinds of reset (R197). -/
inductive ResetKind where
  | cold
  | warm
  deriving DecidableEq, Repr, Inhabited

/-- The travel sense (R37). -/
inductive Sense where
  | ascending
  | descending
  deriving DecidableEq, Repr, Inhabited

/-- The statuses of a response ("Responses"; R199). -/
inductive Status where
  | done
  | clamped
  | badRequest
  | outOfRange
  | overlap
  | tableFull
  | noRecord
  | wrongState
  | notPermitted
  | notLive
  | unreferenced
  | fixTooFar
  | duplicateAddress
  | drumIdle
  deriving DecidableEq, Repr, Inhabited

/-! ### The Plan Store (Chapter 1) -/

/-- The checked fields of a zone record (R4); an optional field is `none` when absent. -/
structure ZoneFields where
  start : Nat
  stop : Nat
  leftDepth : Nat
  rightDepth : Nat
  ramp : Nat
  material : Nat
  slope : Option Int
  cap : Option Nat
  deriving DecidableEq, Repr, Inhabited

/-- A zone record (R4, R5). Its position is formed whenever it is reported (R6). -/
structure Zone where
  number : Nat
  fields : ZoneFields
  suspended : Bool
  clipped : Bool
  deriving DecidableEq, Repr, Inhabited

/-- The position of a zone (R6). -/
inductive ZonePosition where
  | pending
  | governing
  | passed
  | unknown
  deriving DecidableEq, Repr, Inhabited

/-- The sides field of a mark (R22). -/
inductive MarkSides where
  | left
  | right
  | both
  deriving DecidableEq, Repr, Inhabited

/-- The position of a mark against one side (R22, R23). -/
inductive MarkPosition where
  | clear
  | approach
  | isProtected
  | unknown
  deriving DecidableEq, Repr, Inhabited

/-- The checked fields of a mark record (R22). -/
structure MarkFields where
  start : Nat
  length : Nat
  sides : MarkSides
  clearance : Nat
  gradient : Option Nat
  deriving DecidableEq, Repr, Inhabited

/-- The Profile Unit's MARK_AHEAD memory of one mark (R48). -/
structure MarkMemory where
  insideLeft : Bool
  insideRight : Bool
  announced : Bool
  deriving DecidableEq, Repr, Inhabited

/-- A mark record with its two held positions (R22, R23) and its MARK_AHEAD memory (R48). -/
structure Mark where
  number : Nat
  fields : MarkFields
  posLeft : MarkPosition
  posRight : MarkPosition
  memory : MarkMemory
  deriving DecidableEq, Repr, Inhabited

/-- The two tables, kept in order, and the governing-zone number (R3, R16, R21). -/
structure PlanStore where
  zones : List Zone
  marks : List Mark
  governing : Option Nat
  deriving DecidableEq, Repr, Inhabited

/-! ### The Station Counter and the geometry record (Chapter 2) -/

/-- The geometry record (R32), in the order of its layout (R199). -/
structure Geometry where
  encoderDistance : Nat
  swell : Nat
  beltLoad : Nat
  beltMargin : Nat
  beltMin : Nat
  beltMax : Nat
  housingCapacity : Nat
  fillHigh : Nat
  fillLow : Nat
  runOnTime : Nat
  autoStart : Bool
  holdOnFull : Bool
  markGradient : Nat
  lookaheadLead : Nat
  inCutThreshold : Nat
  touchDelta : Nat
  referenceRate : Nat
  referenceTravel : Nat
  jogRate : Nat
  blockPressure : Nat
  deriving DecidableEq, Repr, Inhabited

/-- The defaults of the geometry record (R32). -/
def defaultGeometry : Geometry where
  encoderDistance := 250
  swell := 135
  beltLoad := 250
  beltMargin := 20
  beltMin := 100
  beltMax := 450
  housingCapacity := 60000
  fillHigh := 85
  fillLow := 60
  runOnTime := 80
  autoStart := true
  holdOnFull := true
  markGradient := 8
  lookaheadLead := 300
  inCutThreshold := 50
  touchDelta := 8
  referenceRate := 30
  referenceTravel := 1500
  jogRate := 50
  blockPressure := 220

/-- The Station Counter (R31, R32, R37): the station in cm and its fine remainder in µm, the validity,
the sense, the measured speed, the speed window's accumulator, the levels of ENCA and ENCB last taken
(the phase state), the latched drum class and the geometry record. -/
structure StationCounter where
  station : Nat
  fine : Nat
  valid : Bool
  sense : Sense
  speed : Int
  accum : Int
  phaseA : Bool
  phaseB : Bool
  drumClass : Fin 4
  geometry : Geometry
  deriving DecidableEq, Repr, Inhabited

/-! ### The Channel Monitor (Chapter 4) -/

/-- The polarity of a grade channel (R74). -/
inductive Polarity where
  | plus
  | minus
  deriving DecidableEq, Repr, Inhabited

/-- The kind of a channel; only SONIC and ROPE hold a polarity (R73, R74). -/
inductive Kind where
  | sonic (p : Polarity)
  | rope (p : Polarity)
  | slope
  | load
  | belt
  deriving DecidableEq, Repr, Inhabited

/-- The health of a channel (R73, R76). -/
inductive Health where
  | absent
  | live
  | stale
  | rejected
  deriving DecidableEq, Repr, Inhabited

/-- What a configured channel holds of its configuration (R73). -/
structure ChannelConfig where
  address : Nat
  kind : Kind
  timeout : Nat
  deriving DecidableEq, Repr, Inhabited

/-- A channel record (R73). `config` is `none` while the channel is not configured; `timer` is the
freshness timer's remaining time in ms, `none` while it is stopped. -/
structure Channel where
  config : Option ChannelConfig
  zero : Option Int
  health : Health
  value : Option Int
  status : Option Byte
  engaged : Bool
  timer : Option Nat
  deriving DecidableEq, Repr, Inhabited

/-- The unconfigured record (R73). -/
def emptyChannel : Channel := ⟨none, none, .absent, none, none, false, none⟩

/-- The five roles (R84). -/
inductive Role where
  | leftGrade
  | rightGrade
  | crossSlope
  | drumLoad
  | beltPressure
  deriving DecidableEq, Repr, Inhabited

/-- The five role assignments (R84). -/
structure Roles where
  leftGrade : Option (Fin 8)
  rightGrade : Option (Fin 8)
  crossSlope : Option (Fin 8)
  drumLoad : Option (Fin 8)
  beltPressure : Option (Fin 8)
  deriving DecidableEq, Repr, Inhabited

/-- The Channel Monitor: eight channel records and the roles (R73, R84). -/
structure ChannelMonitor where
  channels : Vector Channel 8
  roles : Roles
  deriving DecidableEq, Repr

/-! ### The Side Loops and the Profile Unit's plan context (Chapters 3 and 5) -/

/-- The side states (R96). -/
inductive SideState where
  | idle
  | manual
  | referencing
  | auto
  | frozen
  deriving DecidableEq, Repr, Inhabited

/-- The control mode (R96). -/
inductive Mode where
  | grade
  | slope
  deriving DecidableEq, Repr, Inhabited

/-- The direction of a jog (R103). -/
inductive Direction where
  | raise
  | lower
  deriving DecidableEq, Repr, Inhabited

/-- A running jog lease: its direction and its remaining time in ms (R96, R103). -/
structure Lease where
  direction : Direction
  remaining : Nat
  deriving DecidableEq, Repr, Inhabited

/-- The settle state (R130): a settling step 0..2 with its remaining dwell in ms, the tracking step 3,
or abandoned. -/
inductive Settle where
  | abandoned
  | settling (step : Fin 3) (dwell : Nat)
  | tracking
  deriving DecidableEq, Repr, Inhabited

/-- What a side holds while REFERENCING (R96, R110): the idle load L0 and the starting reading r0. -/
structure Referencing where
  idleLoad : Int
  startReading : Int
  deriving DecidableEq, Repr, Inhabited

/-- The target source (R48). -/
inductive Source where
  | plan
  | hold
  deriving DecidableEq, Repr, Inhabited

/-- The control basis (R48). -/
inductive Basis where
  | depth
  | slope
  deriving DecidableEq, Repr, Inhabited

/-- The Profile Unit's plan context of a side (R48). `override` holds D_cap while a slope override is
active. -/
structure PlanContext where
  source : Source
  entryDepth : Int
  entryStation : Nat
  holdDepth : Int
  planDepth : Int
  depthTarget : Int
  basis : Basis
  slopeTarget : Int
  heldSlope : Int
  override : Option Int
  offer : Option Nat
  deriving DecidableEq, Repr, Inhabited

/-- The plan context after either reset (R48). -/
def resetContext : PlanContext := ⟨.hold, 0, 0, 0, 0, 0, .depth, 0, 0, none, none⟩

/-- A Side Loop (R96) with the plan context the Profile Unit holds for it (R48). -/
structure SideLoop where
  state : SideState
  mode : Mode
  trim : Int
  demand : Int
  lease : Option Lease
  settle : Settle
  referencing : Option Referencing
  context : PlanContext
  deriving DecidableEq, Repr, Inhabited

/-- A Side Loop after a cold reset (R96, R48). -/
def resetSide : SideLoop := ⟨.idle, .grade, 0, 0, none, .abandoned, none, resetContext⟩

/-! ### The Bank Store (Chapter 6) -/

/-- The fields of a tuning bank (R122), in the order of their layout (R199). -/
structure Bank where
  deadBand : Nat
  k0 : Nat
  k1 : Nat
  k2 : Nat
  k3 : Nat
  t0 : Nat
  t1 : Nat
  t2 : Nat
  v0 : Nat
  v1 : Nat
  v2 : Nat
  raiseMax : Nat
  lowerMax : Nat
  slewStep : Nat
  loadThreshold : Nat
  deriving DecidableEq, Repr, Inhabited

/-- The defaults of the SOFT bank (R122). -/
def defaultSoft : Bank := ⟨10, 48, 36, 28, 24, 10, 10, 20, 100, 200, 600, 150, 200, 20, 85⟩

/-- The defaults of the HARD bank (R122). -/
def defaultHard : Bank := ⟨15, 40, 32, 24, 20, 15, 15, 20, 80, 150, 600, 120, 150, 15, 80⟩

/-- The two banks by name. -/
inductive BankName where
  | soft
  | hard
  deriving DecidableEq, Repr, Inhabited

/-- The Bank Store: two banks and the active-bank selector (R122, R123). -/
structure BankStore where
  soft : Bank
  hard : Bank
  active : BankName
  deriving DecidableEq, Repr, Inhabited

/-! ### The Advance Governor (Chapter 7) -/

/-- The reason of a ceiling (R137). -/
inductive Reason where
  | reset
  | operator
  | zone
  | load
  | profile
  | fill
  | freeze
  | belt
  | link
  | reference
  deriving DecidableEq, Repr, Inhabited

/-- The Advance Governor (R137). `count` is the count the next ceiling message carries, `formed` whether
one has been formed since the last reset (R144, R152). -/
structure Governor where
  cap : Nat
  reduction : Nat
  belowCount : Nat
  inCut : Bool
  ceiling : Nat
  reason : Reason
  profileLimit : Option Nat
  count : Byte
  formed : Bool
  deriving DecidableEq, Repr, Inhabited

/-! ### The Conveyor Controller (Chapter 8) -/

/-- The conveyor states (R155). -/
inductive ConveyorState where
  | stopped
  | running
  | runOn
  | held
  | blocked
  deriving DecidableEq, Repr, Inhabited

/-- The belt modes (R155). -/
inductive BeltMode where
  | auto
  | fixed
  deriving DecidableEq, Repr, Inhabited

/-- The Conveyor Controller (R155). -/
structure Conveyor where
  state : ConveyorState
  beltMode : BeltMode
  fixedSpeed : Nat
  beltSpeed : Nat
  runOnSpeed : Option Nat
  runOnCount : Nat
  neededSpeed : Option Nat
  lastInflow : Nat
  inCut : Bool
  blockCount : Nat
  fill : Nat
  fillLatch : Bool
  truckCounter : Nat
  truckTarget : Nat
  milled : Nat
  delivered : Nat
  spill : Nat
  deriving DecidableEq, Repr, Inhabited

/-! ### The Notice Unit (Chapter 9) -/

/-- The nineteen notices, in the order of their numbers 0..18 (Chapter 9). -/
inductive Notice where
  | coldStart
  | warmRestart
  | zoneEntered
  | planGap
  | markAhead
  | stationInvalid
  | sensorLost
  | sideFrozen
  | referenceDone
  | referenceFailed
  | loadHigh
  | stallGuard
  | fillHigh
  | truckFull
  | beltBlocked
  | linkLost
  | depthClipped
  | spill
  | requestOverrun
  deriving DecidableEq, Repr, Inhabited

/-- A notice record (R177); `cause` stays false for an event notice. -/
structure NoticeRecord where
  latch : Bool
  masked : Bool
  cause : Bool
  count : Byte
  deriving DecidableEq, Repr, Inhabited

/-- The Notice Unit: the nineteen records (R177) and the alert line, true while ALERTn is driven low
(R180). -/
structure NoticeUnit where
  records : Vector NoticeRecord 19
  alertLow : Bool
  deriving DecidableEq, Repr

/-! ### The links (Chapter 10) -/

/-- A frame that the part sends: whether in the flexible data-rate format, its 11-bit identifier, and the data
bytes the spec gives it. The fill bytes that CAN FD's rounding of lengths puts behind them on the bus have no
value in the spec, and the model leaves them out (DESIGN CHOICE, log entry 18). -/
structure SentFrame where
  fd : Bool
  ident : Nat
  data : List Byte
  deriving DecidableEq, Repr, Inhabited

/-- A response standing in the response slot (R190): the requester on whose response identifier it goes out
(R186, `responseIdent`), the data bytes the spec gives it (without fill bytes, log entry 18), the time it may
still stand there in ms, and the second segment that follows it, if any (R191). -/
structure ResponseSlot where
  requester : Requester
  data : List Byte
  remaining : Nat
  second : Option (List Byte)
  deriving DecidableEq, Repr, Inhabited

/-- The Plan Link Interface: the receive queue (R187), the response and broadcast slots (R190), the
broadcast count and timer (R192), the supervision timer (`none`: run out) and the link-loss condition
(R193), and whether a RESTART has been taken whose reset has not begun (R194). -/
structure PlanLink where
  queue : List Frame
  response : Option ResponseSlot
  broadcast : Option (List Byte)
  broadcastCount : Byte
  broadcastTimer : Nat
  supervision : Option Nat
  linkLoss : Bool
  restartTaken : Bool
  deriving DecidableEq, Repr, Inhabited

/-- The Sensor Link Interface: the one pending ceiling message (R196). -/
structure SensorLink where
  ceilingMessage : Option (List Byte)
  deriving DecidableEq, Repr, Inhabited

/-! ### The free-running timers -/

/-- The time in ms to the next expiry of each free-running timer: the two side intervals (R97), the
governor interval and the load window (R137), the conveyor interval (R155) and the speed window (R37). -/
structure IntervalTimers where
  leftSide : Nat
  rightSide : Nat
  governor : Nat
  loadWindow : Nat
  conveyor : Nat
  speedWindow : Nat
  deriving DecidableEq, Repr, Inhabited

/-- The whole part, the reset that is held (`none` while the part runs; R197, R198), and the commands
that wait, first in, first out (the model's own field). -/
structure State where
  plan : PlanStore
  station : StationCounter
  monitor : ChannelMonitor
  left : SideLoop
  right : SideLoop
  banks : BankStore
  governor : Governor
  conveyor : Conveyor
  notices : NoticeUnit
  link : PlanLink
  sensorLink : SensorLink
  timers : IntervalTimers
  heldReset : Option ResetKind
  pending : List Instr
  deriving DecidableEq, Repr

/-! ### Reset values, block by block -/

/-- The Plan Store after a cold reset (R30). -/
def resetPlan : PlanStore := ⟨[], [], none⟩

/-- The Station Counter after a cold reset (R32, R37) with the drum class latched (R31) and the encoder
levels sampled at the release. -/
def resetStation (drumClass : Fin 4) (encA encB : Bool) : StationCounter :=
  ⟨0, 0, false, .ascending, 0, 0, encA, encB, drumClass, defaultGeometry⟩

/-- The Channel Monitor after a cold reset (R73, R84). -/
def resetMonitor : ChannelMonitor := ⟨Vector.replicate 8 emptyChannel, ⟨none, none, none, none, none⟩⟩

/-- The Bank Store after a cold reset (R122, R123). -/
def resetBanks : BankStore := ⟨defaultSoft, defaultHard, .soft⟩

/-- The Advance Governor after a reset that leaves the operator cap at `cap` (R137). -/
def resetGovernor (cap : Nat) : Governor := ⟨cap, 0, 0, false, 0, .reset, none, 0, false⟩

/-- The Conveyor Controller after a cold reset (R155). -/
def resetConveyor : Conveyor :=
  ⟨.stopped, .auto, 100, 0, none, 0, none, 0, false, 0, 0, false, 0, 0, 0, 0, 0⟩

/-- A notice record with nothing latched or counted and the mask given (R185). -/
def clearedNotice (masked : Bool) : NoticeRecord := ⟨false, masked, false, 0⟩

/-- The Plan Link Interface after either reset (R192, R193, R198). -/
def resetLink : PlanLink :=
  ⟨[], none, none, 0, Config.broadcastMs, some Config.supervisionMs, false, false⟩

/-- The free-running timers after either reset: each is started, and its first expiry falls within its
first period at a moment the part does not fix; here at the period's end (DESIGN CHOICE, log entry 12;
unsafe). -/
def resetTimers : IntervalTimers :=
  ⟨Config.sideIntervalMs, Config.sideIntervalMs, Config.governorMs, Config.loadWindowMs, Config.conveyorMs,
    Config.speedWindowMs⟩

/-- The machine right after a cold reset: every field at the value its chapter gives, COLD_START
latched with its count 1 and ALERTn low (R185). The straps and the encoder phases are read from pins;
here all four are low (DESIGN CHOICE, log entry 1; unsafe). -/
def State.reset : State where
  plan := resetPlan
  station := resetStation 0 false false
  monitor := resetMonitor
  left := resetSide
  right := resetSide
  banks := resetBanks
  governor := resetGovernor 600
  conveyor := resetConveyor
  notices := ⟨(Vector.replicate 19 (clearedNotice false)).set 0 ⟨true, false, false, 1⟩, true⟩
  link := resetLink
  sensorLink := ⟨none⟩
  timers := resetTimers
  heldReset := none
  pending := []

end Sys2Proof.Machine
end

