-- ==== Sys2Proof/Machine/Arith.lean ====
section
/-! DEFINITION. The arithmetic of the manual (R1) and the byte order of its frames (R199). -/
namespace Sys2Proof.Machine

/-- A signed value brought within `lo..hi`. -/
def bringWithin (lo hi v : Int) : Int := if v < lo then lo else if hi < v then hi else v

/-- An unsigned value brought within `lo..hi`. -/
def bringWithinNat (lo hi v : Nat) : Nat := if v < lo then lo else if hi < v then hi else v

/-- Division "rounded up" of an unsigned value (R1). -/
def divUp (a b : Nat) : Nat := if a % b = 0 then a / b else a / b + 1

/-- The binary search behind `isqrt`: the bits still to settle, the argument, the root so far. -/
def isqrtBits : Nat → Nat → Nat → Nat
  | 0, _, r => r
  | k + 1, n, r => if (r + 2 ^ k) * (r + 2 ^ k) ≤ n then isqrtBits k n (r + 2 ^ k) else isqrtBits k n r

/-- The integer square root (R1): the largest integer whose square does not exceed the argument. -/
def isqrt (n : Nat) : Nat := isqrtBits (n.log2 / 2 + 1) n 0

/-- Every entry of a table rewritten; `Vector.map` written over the list so that it reduces. -/
def mapTable {α β : Type} {n : Nat} (f : α → β) (v : Vector α n) : Vector β n := ⟨⟨v.toList.map f⟩, by simp⟩

/-! ### Bytes, most significant first (R199) -/

/-- The unsigned value of bytes, most significant first (R199). -/
def beNat (bs : List Byte) : Nat := bs.foldl (fun acc b => acc * 256 + b.toNat) 0

/-- The `k` low bytes of a value, most significant first (R199). -/
def beBytes : Nat → Nat → List Byte
  | 0, _ => []
  | k + 1, v => BitVec.ofNat 8 (v / 256 ^ k) :: beBytes k v

/-- A value of `k` bytes read as two's complement (R199). -/
def signedOf (k v : Nat) : Int := if v < 256 ^ k / 2 then (v : Int) else (v : Int) - (256 ^ k : Nat)

/-- The `k` bytes of a signed value in two's complement (R199). -/
def intBytes (k : Nat) (v : Int) : List Byte := beBytes k (v % (256 ^ k : Nat)).toNat

/-- The unsigned field of `len` bytes at offset `off` of a payload. -/
def fieldAt (p : List Byte) (off len : Nat) : Nat := beNat ((p.drop off).take len)

/-- The signed field of `len` bytes at offset `off` of a payload. -/
def signedAt (p : List Byte) (off len : Nat) : Int := signedOf len (fieldAt p off len)

/-- One byte that carries a value (R199). -/
def byteOf (v : Nat) : List Byte := beBytes 1 v

/-- A flag in one byte: 1 for yes, 0 for no (R199). -/
def flagBytes (b : Bool) : List Byte := byteOf (if b then 1 else 0)

/-- A presence byte and a field, 0 in the field's bytes when it is absent (R199). -/
def presentBytes (k : Nat) : Option Int → List Byte
  | some v => byteOf 1 ++ intBytes k v
  | none => byteOf 0 ++ intBytes k 0

end Sys2Proof.Machine
end

