-- ==== Sys2Proof/Machine/Operands.lean ====
section
/-! DEFINITION. The operands of the requests and the records of the responses: the enumerations and the
layouts of section 10.6 (R199), and the ranges the checked fields are tested against (R4, R22, R32,
R122). -/
namespace Sys2Proof.Machine

/-! ### Enumerations (R199) -/

/-- Status values (R199). -/
def Status.code : Status → Nat
  | .done => 0
  | .clamped => 1
  | .badRequest => 2
  | .outOfRange => 3
  | .overlap => 4
  | .tableFull => 5
  | .noRecord => 6
  | .wrongState => 7
  | .notPermitted => 8
  | .notLive => 9
  | .unreferenced => 10
  | .fixTooFar => 11
  | .duplicateAddress => 12
  | .drumIdle => 13

/-- Zone positions (R199). -/
def ZonePosition.code : ZonePosition → Nat
  | .pending => 0
  | .governing => 1
  | .passed => 2
  | .unknown => 3

/-- Mark positions (R199). -/
def MarkPosition.code : MarkPosition → Nat
  | .clear => 0
  | .approach => 1
  | .isProtected => 2
  | .unknown => 3

/-- Sides of a mark (R199). -/
def MarkSides.code : MarkSides → Nat
  | .left => 1
  | .right => 2
  | .both => 3

def markSidesOf : Nat → Option MarkSides
  | 1 => some .left
  | 2 => some .right
  | 3 => some .both
  | _ => none

def sideCode : Side → Nat
  | .left => 1
  | .right => 2

def sideOf : Nat → Option Side
  | 1 => some .left
  | 2 => some .right
  | _ => none

def Direction.code : Direction → Nat
  | .raise => 1
  | .lower => 2

def directionOf : Nat → Option Direction
  | 1 => some .raise
  | 2 => some .lower
  | _ => none

def Mode.code : Mode → Nat
  | .grade => 1
  | .slope => 2

def modeOf : Nat → Option Mode
  | 1 => some .grade
  | 2 => some .slope
  | _ => none

def BankName.code : BankName → Nat
  | .soft => 1
  | .hard => 2

def bankNameOf : Nat → Option BankName
  | 1 => some .soft
  | 2 => some .hard
  | _ => none

def Sense.code : Sense → Nat
  | .ascending => 1
  | .descending => 2

def senseOf : Nat → Option Sense
  | 1 => some .ascending
  | 2 => some .descending
  | _ => none

def Polarity.code : Polarity → Nat
  | .plus => 1
  | .minus => 255

def polarityOf : Nat → Option Polarity
  | 1 => some .plus
  | 255 => some .minus
  | _ => none

/-- The sign a polarity stands for (R74). -/
def Polarity.sign : Polarity → Int
  | .plus => 1
  | .minus => -1

def Kind.code : Kind → Nat
  | .sonic _ => 1
  | .rope _ => 2
  | .slope => 3
  | .load => 4
  | .belt => 5

/-- The kind a kind byte and a polarity byte name; for SLOPE, LOAD and BELT the polarity is not read
(R81, R199). -/
def kindOf (kind polarity : Nat) : Option Kind :=
  match kind with
  | 1 => (polarityOf polarity).map .sonic
  | 2 => (polarityOf polarity).map .rope
  | 3 => some .slope
  | 4 => some .load
  | 5 => some .belt
  | _ => none

/-- The polarity of a kind that has one (R73). -/
def Kind.polarity : Kind → Option Polarity
  | .sonic p => some p
  | .rope p => some p
  | _ => none

/-- SONIC and ROPE: the kinds that report a depth (R74). -/
def Kind.isGrade (k : Kind) : Bool := k.polarity.isSome

/-- The reading range of a kind (R74). -/
def Kind.inRange : Kind → Int → Bool
  | .sonic _, v => 0 ≤ v && v ≤ 20000
  | .rope _, v => 0 ≤ v && v ≤ 10000
  | .slope, v => -1500 ≤ v && v ≤ 1500
  | .load, v => 0 ≤ v && v ≤ 120
  | .belt, v => 0 ≤ v && v ≤ 400

def Role.code : Role → Nat
  | .leftGrade => 1
  | .rightGrade => 2
  | .crossSlope => 3
  | .drumLoad => 4
  | .beltPressure => 5

def roleOf : Nat → Option Role
  | 1 => some .leftGrade
  | 2 => some .rightGrade
  | 3 => some .crossSlope
  | 4 => some .drumLoad
  | 5 => some .beltPressure
  | _ => none

/-- The five roles in the order READ ROLES returns them (R199). -/
def allRoles : List Role := [.leftGrade, .rightGrade, .crossSlope, .drumLoad, .beltPressure]

/-- The kinds a role admits (R84). -/
def Role.admits : Role → Kind → Bool
  | .leftGrade, k => k.isGrade
  | .rightGrade, k => k.isGrade
  | .crossSlope, k => k = .slope
  | .drumLoad, k => k = .load
  | .beltPressure, k => k = .belt

/-- The grade role of a side (R84). -/
def gradeRole : Side → Role
  | .left => .leftGrade
  | .right => .rightGrade

/-- A channel number of one byte (R73). -/
def channelOf (n : Nat) : Option (Fin 8) := if h : n < 8 then some ⟨n, h⟩ else none

/-- A channel number or none, 255 for none (R199): `none` for a byte that is neither. -/
def channelOrNoneOf (n : Nat) : Option (Option (Fin 8)) :=
  if n = 255 then some none else (channelOf n).map some

def channelCode : Option (Fin 8) → Nat
  | some n => n.val
  | none => 255

def Health.code : Health → Nat
  | .absent => 0
  | .live => 1
  | .stale => 2
  | .rejected => 3

def SideState.code : SideState → Nat
  | .idle => 0
  | .manual => 1
  | .referencing => 2
  | .auto => 3
  | .frozen => 4

def Source.code : Source → Nat
  | .plan => 0
  | .hold => 1

def Basis.code : Basis → Nat
  | .depth => 0
  | .slope => 1

def ConveyorState.code : ConveyorState → Nat
  | .stopped => 0
  | .running => 1
  | .runOn => 2
  | .held => 3
  | .blocked => 4

def BeltMode.code : BeltMode → Nat
  | .auto => 1
  | .fixed => 2

def beltModeOf : Nat → Option BeltMode
  | 1 => some .auto
  | 2 => some .fixed
  | _ => none

def Reason.code : Reason → Nat
  | .reset => 0
  | .operator => 1
  | .zone => 2
  | .load => 3
  | .profile => 4
  | .fill => 5
  | .freeze => 6
  | .belt => 7
  | .link => 8
  | .reference => 9

/-- The number of a notice (Chapter 9). -/
def Notice.number : Notice → Fin 19
  | .coldStart => 0
  | .warmRestart => 1
  | .zoneEntered => 2
  | .planGap => 3
  | .markAhead => 4
  | .stationInvalid => 5
  | .sensorLost => 6
  | .sideFrozen => 7
  | .referenceDone => 8
  | .referenceFailed => 9
  | .loadHigh => 10
  | .stallGuard => 11
  | .fillHigh => 12
  | .truckFull => 13
  | .beltBlocked => 14
  | .linkLost => 15
  | .depthClipped => 16
  | .spill => 17
  | .requestOverrun => 18

/-- The condition notices, by number (the table of Chapter 9). -/
def isCondition (k : Nat) : Bool := k ∈ [3, 5, 6, 7, 12, 13, 14, 15]

/-- A flag byte: 0 or 1, `none` for any other value (R199). -/
def flagOf : Nat → Option Bool
  | 0 => some false
  | 1 => some true
  | _ => none

/-! ### The zone record (R4, R199) -/

/-- The twenty bytes of a zone record. -/
def zoneBytes (z : ZoneFields) : List Byte :=
  beBytes 4 z.start ++ beBytes 4 z.stop ++ beBytes 2 z.leftDepth ++ beBytes 2 z.rightDepth ++ beBytes 2 z.ramp ++
  byteOf z.material ++ byteOf ((if z.slope.isSome then 1 else 0) + (if z.cap.isSome then 2 else 0)) ++
  intBytes 2 (z.slope.getD 0) ++ beBytes 2 (z.cap.getD 0)

/-- The fields of the twenty bytes; `none` for a presence value above 3. -/
def zoneOfBytes (p : List Byte) : Option ZoneFields :=
  let presence := fieldAt p 15 1
  if 3 < presence then none
  else some {
    start := fieldAt p 0 4
    stop := fieldAt p 4 4
    leftDepth := fieldAt p 8 2
    rightDepth := fieldAt p 10 2
    ramp := fieldAt p 12 2
    material := fieldAt p 14 1
    slope := if presence % 2 = 1 then some (signedAt p 16 2) else none
    cap := if 2 ≤ presence then some (fieldAt p 18 2) else none }

/-- Every checked field lies in its range (R4). -/
def ZoneFields.inRange (z : ZoneFields) : Bool :=
  z.start ≤ 9999989 && z.start + 10 ≤ z.stop && z.stop ≤ Config.stationMax &&
  z.leftDepth ≤ 5000 && z.rightDepth ≤ 5000 && z.ramp ≤ 5000 && 1 ≤ z.material && z.material ≤ 4 &&
  (match z.slope with | some v => -1000 ≤ v && v ≤ 1000 | none => true) &&
  (match z.cap with | some v => 30 ≤ v && v ≤ 600 | none => true)

/-- The record of a payload when every field is in range; `none` answers OUT_OF_RANGE (R7 test 3). -/
def checkedZone (p : List Byte) : Option ZoneFields := (zoneOfBytes p).filter ZoneFields.inRange

/-- The flags byte of READ ZONE (R199). -/
def zoneFlags (z : Zone) : Nat := (if z.suspended then 1 else 0) + (if z.clipped then 2 else 0)

/-! ### The mark record (R22, R199) -/

/-- The eleven bytes of a mark record. -/
def markBytes (m : MarkFields) : List Byte :=
  beBytes 4 m.start ++ beBytes 2 m.length ++ byteOf m.sides.code ++ beBytes 2 m.clearance ++
  byteOf (if m.gradient.isSome then 1 else 0) ++ byteOf (m.gradient.getD 0)

/-- The fields of the eleven bytes; `none` for a sides or presence value outside its list. -/
def markOfBytes (p : List Byte) : Option MarkFields :=
  match markSidesOf (fieldAt p 6 1), flagOf (fieldAt p 9 1) with
  | some sides, some present => some {
      start := fieldAt p 0 4
      length := fieldAt p 4 2
      sides := sides
      clearance := fieldAt p 7 2
      gradient := if present then some (fieldAt p 10 1) else none }
  | _, _ => none

/-- Every checked field lies in its range (R22), with the drum class's maximum cut depth. -/
def MarkFields.inRange (maxDepth : Nat) (m : MarkFields) : Bool :=
  m.start ≤ Config.stationMax && 1 ≤ m.length && m.length ≤ 3000 && m.start + m.length - 1 ≤ Config.stationMax &&
  m.clearance ≤ maxDepth && (match m.gradient with | some g => 1 ≤ g && g ≤ 50 | none => true)

/-- The record of a payload when every field is in range (R7 test 3). -/
def checkedMark (maxDepth : Nat) (p : List Byte) : Option MarkFields :=
  (markOfBytes p).filter (MarkFields.inRange maxDepth)

/-! ### The geometry record (R32, R199) -/

/-- The thirty bytes of the geometry record. -/
def geometryBytes (g : Geometry) : List Byte :=
  beBytes 2 g.encoderDistance ++ byteOf g.swell ++ beBytes 2 g.beltLoad ++ byteOf g.beltMargin ++
  beBytes 2 g.beltMin ++ beBytes 2 g.beltMax ++ beBytes 3 g.housingCapacity ++ byteOf g.fillHigh ++
  byteOf g.fillLow ++ beBytes 2 g.runOnTime ++ flagBytes g.autoStart ++ flagBytes g.holdOnFull ++
  byteOf g.markGradient ++ beBytes 2 g.lookaheadLead ++ byteOf g.inCutThreshold ++ byteOf g.touchDelta ++
  byteOf g.referenceRate ++ beBytes 2 g.referenceTravel ++ byteOf g.jogRate ++ beBytes 2 g.blockPressure

/-- The fields of the thirty bytes; `none` when a switch carries neither on nor off (R33). -/
def geometryOfBytes (p : List Byte) : Option Geometry :=
  match flagOf (fieldAt p 17 1), flagOf (fieldAt p 18 1) with
  | some autoStart, some hold => some {
      encoderDistance := fieldAt p 0 2
      swell := fieldAt p 2 1
      beltLoad := fieldAt p 3 2
      beltMargin := fieldAt p 5 1
      beltMin := fieldAt p 6 2
      beltMax := fieldAt p 8 2
      housingCapacity := fieldAt p 10 3
      fillHigh := fieldAt p 13 1
      fillLow := fieldAt p 14 1
      runOnTime := fieldAt p 15 2
      autoStart := autoStart
      holdOnFull := hold
      markGradient := fieldAt p 19 1
      lookaheadLead := fieldAt p 20 2
      inCutThreshold := fieldAt p 22 1
      touchDelta := fieldAt p 23 1
      referenceRate := fieldAt p 24 1
      referenceTravel := fieldAt p 25 2
      jogRate := fieldAt p 27 1
      blockPressure := fieldAt p 28 2 }
  | _, _ => none

/-- Every field lies in its range (R32), the low mark against the high mark of the same record. -/
def Geometry.inRange (g : Geometry) : Bool :=
  10 ≤ g.encoderDistance && g.encoderDistance ≤ 5000 && 100 ≤ g.swell && g.swell ≤ 200 &&
  50 ≤ g.beltLoad && g.beltLoad ≤ 600 && g.beltMargin ≤ 50 && 50 ≤ g.beltMin && g.beltMin ≤ 200 &&
  200 ≤ g.beltMax && g.beltMax ≤ 500 && 10000 ≤ g.housingCapacity && g.housingCapacity ≤ 120000 &&
  50 ≤ g.fillHigh && g.fillHigh ≤ 95 && 20 ≤ g.fillLow && g.fillLow + 10 ≤ g.fillHigh &&
  10 ≤ g.runOnTime && g.runOnTime ≤ 300 && 1 ≤ g.markGradient && g.markGradient ≤ 50 &&
  g.lookaheadLead ≤ 2000 && 10 ≤ g.inCutThreshold && g.inCutThreshold ≤ 200 &&
  3 ≤ g.touchDelta && g.touchDelta ≤ 30 && 10 ≤ g.referenceRate && g.referenceRate ≤ 100 &&
  100 ≤ g.referenceTravel && g.referenceTravel ≤ 2000 && 10 ≤ g.jogRate && g.jogRate ≤ 200 &&
  50 ≤ g.blockPressure && g.blockPressure ≤ 350

/-- The record of a payload when every field is in range (R33). -/
def checkedGeometry (p : List Byte) : Option Geometry := (geometryOfBytes p).filter Geometry.inRange

/-! ### The bank record (R122, R199) -/

/-- The twenty bytes of a bank's fields, as they stand after the bank's name. -/
def bankBytes (b : Bank) : List Byte :=
  byteOf b.deadBand ++ byteOf b.k0 ++ byteOf b.k1 ++ byteOf b.k2 ++ byteOf b.k3 ++
  byteOf b.t0 ++ byteOf b.t1 ++ byteOf b.t2 ++ beBytes 2 b.v0 ++ beBytes 2 b.v1 ++ beBytes 2 b.v2 ++
  beBytes 2 b.raiseMax ++ beBytes 2 b.lowerMax ++ byteOf b.slewStep ++ byteOf b.loadThreshold

/-- The fields of the twenty bytes. -/
def bankOfBytes (p : List Byte) : Bank where
  deadBand := fieldAt p 0 1
  k0 := fieldAt p 1 1
  k1 := fieldAt p 2 1
  k2 := fieldAt p 3 1
  k3 := fieldAt p 4 1
  t0 := fieldAt p 5 1
  t1 := fieldAt p 6 1
  t2 := fieldAt p 7 1
  v0 := fieldAt p 8 2
  v1 := fieldAt p 10 2
  v2 := fieldAt p 12 2
  raiseMax := fieldAt p 14 2
  lowerMax := fieldAt p 16 2
  slewStep := fieldAt p 18 1
  loadThreshold := fieldAt p 19 1

/-- Every field lies in its range (R122). -/
def Bank.inRange (b : Bank) : Bool :=
  b.deadBand ≤ 50 && 1 ≤ b.k0 && b.k0 ≤ 255 && 1 ≤ b.k1 && b.k1 ≤ 255 && 1 ≤ b.k2 && b.k2 ≤ 255 &&
  1 ≤ b.k3 && b.k3 ≤ 255 && b.t0 ≤ 31 && b.t1 ≤ 31 && b.t2 ≤ 31 && b.v0 ≤ 600 && b.v1 ≤ 600 && b.v2 ≤ 600 &&
  10 ≤ b.raiseMax && b.raiseMax ≤ 300 && 10 ≤ b.lowerMax && b.lowerMax ≤ 300 &&
  1 ≤ b.slewStep && b.slewStep ≤ 100 && 50 ≤ b.loadThreshold && b.loadThreshold ≤ 97

/-! ### Notice sets (R199) -/

/-- The notices a three-byte set names: notice k in bit k of the 24-bit value, which is bit k mod 8 of
byte 2 − trunc(k / 8); `none` when a bit 19..23 is set. -/
def noticeSetOf (p : List Byte) : Option (Nat → Bool) :=
  let v := fieldAt p 0 3
  if v < 2 ^ 19 then some (fun k => v.testBit k) else none

/-- The three bytes of a notice set. -/
def noticeSetBytes (bits : List Bool) : List Byte :=
  beBytes 3 (bits.foldr (fun b acc => (if b then 1 else 0) + 2 * acc) 0)

end Sys2Proof.Machine
end

