-- ==== Sys2Proof/Machine/Flags.lean ====
section
/-! DEFINITION. The Notice Unit's operations (Chapter 9): raising an event notice, beginning and ending
the cause of a condition notice, and the alert line; and the eight causes, each as the condition on the
state that the rule owning it gives. -/
namespace Sys2Proof.Machine

/-- The record of a notice (R177). -/
def State.notice (n : Notice) (s : State) : NoticeRecord := s.notices.records[n.number.val]

/-- Writes the record of one notice. -/
def State.setNotice (n : Notice) (v : NoticeRecord) (s : State) : State :=
  { s with notices.records := s.notices.records.set n.number.val v }

/-- Some notice has its latch set and its mask unmasked (R180). -/
def alertDue (records : Vector NoticeRecord 19) : Bool := records.toList.any (fun r => r.latch && !r.masked)

/-- Re-evaluates ALERTn (R180). -/
def State.updateAlert (s : State) : State := { s with notices.alertLow := alertDue s.notices.records }

/-- An event notice is raised (R178): latched, counted, and the line re-evaluated. -/
def State.raiseNotice (n : Notice) (s : State) : State :=
  (s.setNotice n { s.notice n with latch := true, count := (s.notice n).count + 1 }).updateAlert

/-- An event notice is raised a number of times within one event (R178). -/
def State.raiseTimes (n : Notice) : Nat → State → State
  | 0, s => s
  | k + 1, s => (s.raiseNotice n).raiseTimes n k

/-- A block tells the Notice Unit how the cause of a condition notice now stands (R179): a cause that
was absent begins (latched, counted, line re-evaluated), one that was present ends with its latch kept,
and one that stands as told changes nothing. -/
def State.tellCause (n : Notice) (present : Bool) (s : State) : State :=
  if present then
    if (s.notice n).cause then s
    else (s.setNotice n { s.notice n with latch := true, cause := true, count := (s.notice n).count + 1 }).updateAlert
  else s.setNotice n { s.notice n with cause := false }

/-! ### The causes -/

/-- The side loop of a side. -/
def State.side (x : Side) (s : State) : SideLoop :=
  match x with
  | .left => s.left
  | .right => s.right

/-- The channel that holds a role (R84). -/
def Roles.get (r : Role) (a : Roles) : Option (Fin 8) :=
  match r with
  | .leftGrade => a.leftGrade
  | .rightGrade => a.rightGrade
  | .crossSlope => a.crossSlope
  | .drumLoad => a.drumLoad
  | .beltPressure => a.beltPressure

/-- A channel record (R73). -/
def State.channel (n : Fin 8) (s : State) : Channel := s.monitor.channels[n.val]

/-- The record of the channel that holds a role, if the role is assigned. -/
def State.roleChannel (r : Role) (s : State) : Option Channel := (s.monitor.roles.get r).map (fun n => s.channel n)

/-- A side is in AUTO. -/
def State.anyAuto (s : State) : Bool := s.left.state = .auto || s.right.state = .auto

/-- A side is in AUTO with source HOLD: the cause of PLAN_GAP (R58). -/
def State.planGap (s : State) : Bool :=
  (s.left.state = .auto && s.left.context.source = .hold) || (s.right.state = .auto && s.right.context.source = .hold)

/-- The station is INVALID and a side is in AUTO: the cause of STATION_INVALID (R47). -/
def State.stationLost (s : State) : Bool := !s.station.valid && s.anyAuto

/-- A role is assigned to a channel that is not LIVE: the cause of SENSOR_LOST (R93). -/
def State.sensorLost (s : State) : Bool :=
  allRoles.any (fun r => match s.roleChannel r with | some c => c.health ≠ .live | none => false)

/-- A side is FROZEN: the cause of SIDE_FROZEN (R106). -/
def State.sideFrozen (s : State) : Bool := s.left.state = .frozen || s.right.state = .frozen

/-- The truck target is set and reached: the cause of TRUCK_FULL (R167). -/
def State.truckFull (s : State) : Bool :=
  0 < s.conveyor.truckTarget && s.conveyor.truckTarget * 100 ≤ s.conveyor.truckCounter

/-- PLAN_GAP is re-evaluated (R58). -/
def State.tellPlanGap (s : State) : State := s.tellCause .planGap s.planGap

/-- STATION_INVALID is re-evaluated (R47). -/
def State.tellStationInvalid (s : State) : State := s.tellCause .stationInvalid s.stationLost

/-- SENSOR_LOST is re-evaluated (R93). -/
def State.tellSensorLost (s : State) : State := s.tellCause .sensorLost s.sensorLost

/-- SIDE_FROZEN is re-evaluated (R106). -/
def State.tellSideFrozen (s : State) : State := s.tellCause .sideFrozen s.sideFrozen

/-- FILL_HIGH follows the fill-limit latch (R166). -/
def State.tellFillHigh (s : State) : State := s.tellCause .fillHigh s.conveyor.fillLatch

/-- TRUCK_FULL is re-evaluated (R167). -/
def State.tellTruckFull (s : State) : State := s.tellCause .truckFull s.truckFull

/-- BELT_BLOCKED follows the conveyor state (R171). -/
def State.tellBeltBlocked (s : State) : State := s.tellCause .beltBlocked (s.conveyor.state = .blocked)

/-- LINK_LOST follows the link-loss condition (R193). -/
def State.tellLinkLost (s : State) : State := s.tellCause .linkLost s.link.linkLoss

/-- The causes present at a reset release are begun (R185): those of state that the reset keeps, and
the other four, which no reset leaves present. -/
def State.tellAllCauses (s : State) : State :=
  s.tellPlanGap.tellStationInvalid.tellSensorLost.tellSideFrozen.tellFillHigh.tellTruckFull.tellBeltBlocked.tellLinkLost

end Sys2Proof.Machine
end

