-- ==== Sys2Proof/Machine/Ops.lean ====
section
/-! DEFINITION. The shared operations of the part: what several commands do to the same state, each
written once. Requests and responses (Chapter 10), channels and measured quantities (Chapter 4), the
banks and the settle sequence (Chapter 6), governance and the entry capture (Chapters 1 and 3), and a
side's leaving AUTO (Chapter 5). -/
namespace Sys2Proof.Machine

/-- What a command answers. -/
abbrev Answer := Host.Outcome State Fault Refusal

/-- While a reset is held no event but the resets' own reaches the part (R198): the command leaves the
state as it is. -/
def State.whileRunning (s : State) (t : State) : State := if s.heldReset.isSome then s else t

/-! ### The free-running timers (R37, R97, R137, R155) -/

/-- A side's interval timer starts its next period (R97). -/
def State.nextSidePeriod (x : Side) (s : State) : State :=
  match x with
  | .left => { s with timers.leftSide := Config.sideIntervalMs }
  | .right => { s with timers.rightSide := Config.sideIntervalMs }

/-! ### Sides -/

/-- Writes the loop of one side. -/
def State.setSide (x : Side) (v : SideLoop) (s : State) : State :=
  match x with
  | .left => { s with left := v }
  | .right => { s with right := v }

/-- Writes the plan context of one side. -/
def State.setContext (x : Side) (c : PlanContext) (s : State) : State :=
  s.setSide x { s.side x with context := c }

def otherSide : Side → Side
  | .left => .right
  | .right => .left

/-- The maximum cut depth of the latched drum class (R31). -/
def State.maxDepth (s : State) : Nat := Config.drumMax s.station.drumClass

/-- A depth clamped to 0..maximum. -/
def State.clampDepth (s : State) (d : Int) : Int := bringWithin 0 s.maxDepth d

/-! ### Channels, roles and measured quantities (R78, R79, R80) -/

/-- Writes a channel record. -/
def State.setChannel (n : Fin 8) (c : Channel) (s : State) : State :=
  { s with monitor.channels := s.monitor.channels.set n.val c }

/-- Writes a role assignment. -/
def Roles.set (r : Role) (v : Option (Fin 8)) (a : Roles) : Roles :=
  match r with
  | .leftGrade => { a with leftGrade := v }
  | .rightGrade => { a with rightGrade := v }
  | .crossSlope => { a with crossSlope := v }
  | .drumLoad => { a with drumLoad := v }
  | .beltPressure => { a with beltPressure := v }

/-- Assigns a role. -/
def State.setRole (r : Role) (v : Option (Fin 8)) (s : State) : State :=
  { s with monitor.roles := s.monitor.roles.set r v }

/-- The role a channel holds, if any; a channel holds at most one (R84). -/
def State.roleHeld (n : Fin 8) (s : State) : Option Role :=
  allRoles.find? (fun r => s.monitor.roles.get r = some n)

/-- The polarity sign of a channel, +1 where its kind has none (R74). -/
def Channel.sign (c : Channel) : Int :=
  match c.config.bind (fun g => g.kind.polarity) with
  | some p => p.sign
  | none => 1

/-- The depth of a grade channel, `none` while it is not valid (R78). -/
def Channel.depth (c : Channel) : Option Int :=
  match c.config, c.zero, c.value with
  | some g, some z, some v =>
    if c.health = .live && g.kind.isGrade then some (bringWithin (-500) 5000 ((z - v) * c.sign)) else none
  | _, _, _ => none

/-- The last value of a LIVE channel: what the kinds without a depth report (R79). -/
def Channel.quantity (c : Channel) : Option Int := if c.health = .live then c.value else none

/-- The measured depth of a side (R78). -/
def State.measuredDepth (x : Side) (s : State) : Option Int := (s.roleChannel (gradeRole x)).bind Channel.depth

/-- The measured cross slope (R79). -/
def State.crossSlope (s : State) : Option Int := (s.roleChannel .crossSlope).bind Channel.quantity

/-- The drum load (R79). -/
def State.drumLoad (s : State) : Option Int := (s.roleChannel .drumLoad).bind Channel.quantity

/-- The belt pressure (R79). -/
def State.beltPressure (s : State) : Option Int := (s.roleChannel .beltPressure).bind Channel.quantity

/-- A side is referenced while its grade channel holds a zero reference (R90). -/
def State.isReferenced (x : Side) (s : State) : Bool :=
  match s.roleChannel (gradeRole x) with
  | some c => c.zero.isSome
  | none => false

/-- A side's measured depth clamped to 0..maximum (R50, R54, R60), 0 where it is not valid (DESIGN
CHOICE, log entry 6: every use of that value is in AUTO or at the entry into AUTO, where R105 makes the
depth valid). -/
def State.cutDepth (x : Side) (s : State) : Int := s.clampDepth ((s.measuredDepth x).getD 0)

/-- A role is in use (R80). -/
def State.roleInUse (r : Role) (s : State) : Bool :=
  match r with
  | .leftGrade => s.left.state = .auto || s.left.state = .referencing
  | .rightGrade => s.right.state = .auto || s.right.state = .referencing
  | .crossSlope => (s.left.mode = .slope && s.left.state = .auto) || (s.right.mode = .slope && s.right.state = .auto)
  | .drumLoad => s.left.state = .referencing || s.right.state = .referencing
  | .beltPressure => false

/-! ### Banks and the settle sequence (Chapter 6) -/

/-- A bank by name (R122). -/
def State.bank (b : BankName) (s : State) : Bank :=
  match b with
  | .soft => s.banks.soft
  | .hard => s.banks.hard

/-- The active bank (R123). -/
def State.activeBank (s : State) : Bank := s.bank s.banks.active

/-- Gain, dwell and skip speed of the settling steps (R122). -/
def Bank.gain (b : Bank) : Fin 3 → Nat
  | 0 => b.k0
  | 1 => b.k1
  | 2 => b.k2

def Bank.dwell (b : Bank) : Fin 3 → Nat
  | 0 => b.t0
  | 1 => b.t1
  | 2 => b.t2

def Bank.skip (b : Bank) : Fin 3 → Nat
  | 0 => b.v0
  | 1 => b.v1
  | 2 => b.v2

/-- The gain of a settle state (R114): K3 while tracking. (Out of AUTO, where the sequence is abandoned,
no gain is used.) -/
def Bank.gainOf (b : Bank) : Settle → Nat
  | .settling k _ => b.gain k
  | .tracking => b.k3
  | .abandoned => b.k3

/-- A demand brought within −raise max..+lower max of a bank (R115, R116). -/
def Bank.limit (b : Bank) (u : Int) : Int := bringWithin (-(b.raiseMax : Int)) b.lowerMax u

/-- A side brings its held demand within a bank's limits (R116). -/
def SideLoop.limitTo (b : Bank) (d : SideLoop) : SideLoop := { d with demand := b.limit d.demand }

/-- Both sides bring their held demands within the active bank's limits (R116, R124, R127). -/
def State.limitDemands (s : State) : State :=
  { s with left := s.left.limitTo s.activeBank, right := s.right.limitTo s.activeBank }

/-- The bank a material class selects (R123). -/
def bankOfClass (material : Nat) : BankName := if material ≤ 2 then .soft else .hard

/-- A material class is handed to the Bank Store (R123, R124). -/
def State.handClass (material : Nat) (s : State) : State :=
  if s.banks.active = bankOfClass material then s
  else ({ s with banks.active := bankOfClass material } : State).limitDemands

/-- A settling step is eligible at a measured speed (R130). -/
def Bank.eligible (b : Bank) (speed : Int) (k : Fin 3) : Bool := 0 < b.dwell k && speed < (b.skip k : Int)

/-- The first eligible step of a list of steps, entered with its dwell, or step 3 (R130, R131, R132). -/
def Bank.firstStep (b : Bank) (speed : Int) (steps : List (Fin 3)) : Settle :=
  match steps.find? (b.eligible speed) with
  | some k => .settling k (b.dwell k * Config.dwellUnitMs)
  | none => .tracking

/-- The steps after a settling step (R132). -/
def stepsAfter : Fin 3 → List (Fin 3)
  | 0 => [1, 2]
  | 1 => [2]
  | 2 => []

/-- A restart of a side's settle sequence at this event (R131). -/
def State.restartSettle (x : Side) (s : State) : State :=
  s.setSide x { s.side x with settle := s.activeBank.firstStep s.station.speed [0, 1, 2] }

/-! ### Marks (Chapter 1) -/

/-- A mark covers a side (R22). -/
def MarkFields.covers (x : Side) (m : MarkFields) : Bool :=
  match m.sides, x with
  | .both, _ => true
  | .left, .left => true
  | .right, .right => true
  | _, _ => false

/-- The positions of a mark at its insertion or amendment, and of every mark when the station becomes
invalid (R23): UNKNOWN for a covered side, CLEAR for the other. -/
def freshPosition (m : MarkFields) (x : Side) : MarkPosition := if m.covers x then .unknown else .clear

/-- The re-armed MARK_AHEAD memory (R48). -/
def rearmed : MarkMemory := ⟨false, false, false⟩

/-- A mark as its insertion leaves it (R24, R23, R48). -/
def freshMark (number : Nat) (m : MarkFields) : Mark :=
  ⟨number, m, freshPosition m .left, freshPosition m .right, rearmed⟩

/-- The positions of a mark become unknown with the station (R23). -/
def Mark.forgetPosition (m : Mark) : Mark :=
  { m with posLeft := freshPosition m.fields .left, posRight := freshPosition m.fields .right }

/-- A mark's memory when a side leaves AUTO (R57): the side's inside flag becomes no, and the announced
flag too when the other inside flag is no. -/
def MarkMemory.leave (x : Side) (m : MarkMemory) : MarkMemory :=
  match x with
  | .left => ⟨false, m.insideRight, m.announced && m.insideRight⟩
  | .right => ⟨m.insideLeft, false, m.announced && m.insideLeft⟩

/-! ### Governance and the entry capture (R16 to R18, R50, R55, R56) -/

/-- The stored depth of a zone for a side (R51). -/
def Zone.depth (x : Side) (z : Zone) : Nat :=
  match x with
  | .left => z.fields.leftDepth
  | .right => z.fields.rightDepth

/-- A station lies in a zone's half-open interval (R3). -/
def ZoneFields.contains (station : Nat) (z : ZoneFields) : Bool := z.start ≤ station && station < z.stop

/-- The record a zone number names. -/
def State.findZone (n : Nat) (s : State) : Option Zone := s.plan.zones.find? (fun z => z.number = n)

/-- The record of the governing zone (R16). -/
def State.governingZone (s : State) : Option Zone := s.plan.governing.bind (fun n => s.findZone n)

/-- The zone that re-evaluation finds (R16): the zone that is not suspended and contains S, when the
station is valid. -/
def State.candidate (s : State) : Option Zone :=
  if s.station.valid then s.plan.zones.find? (fun z => !z.suspended && z.fields.contains s.station.station) else none

/-- The held slope is captured from the measured cross slope (R65); kept where none is measured (DESIGN
CHOICE, log entry 6: in AUTO under SLOPE mode R105 makes the reading valid). -/
def State.slopeCapture (x : Side) (s : State) : Int := s.crossSlope.getD (s.side x).context.heldSlope

/-- The entry capture of one side from a zone (R50), with R56's source switch and R65's held slope for a
side in AUTO. -/
def State.captureSide (z : Zone) (x : Side) (s : State) : State :=
  let d := s.side x
  let c := d.context
  if d.state = .auto then
    s.setContext x { c with
      entryDepth := c.planDepth
      entryStation := s.station.station
      source := .plan
      heldSlope := if d.mode = .slope then s.slopeCapture x else c.heldSlope }
  else
    let e : Int := match s.measuredDepth x with
      | some m => s.clampDepth m
      | none => (z.depth x : Int)
    s.setContext x { c with entryDepth := e, entryStation := s.station.station, planDepth := e }

/-- A side when the governing-zone number becomes none (R55, R65). -/
def State.releaseSide (x : Side) (s : State) : State :=
  let d := s.side x
  let c := d.context
  if d.state = .auto then
    s.setContext x { c with
      source := .hold
      holdDepth := if c.source = .plan then c.planDepth else c.holdDepth
      heldSlope := if d.mode = .slope then s.slopeCapture x else c.heldSlope }
  else s

/-- A zone takes governance, or is amended while governing (R17). -/
def State.takeGovernance (z : Zone) (s : State) : State :=
  (((({ s with plan.governing := some z.number } : State).raiseNotice .zoneEntered).handClass
    z.fields.material).captureSide z .left).captureSide z .right |>.tellPlanGap

/-- The governing-zone number becomes none (R18). -/
def State.loseGovernance (s : State) : State :=
  ((({ s with plan.governing := none } : State).releaseSide .left).releaseSide .right).tellPlanGap

/-- Governance is re-evaluated (R16); `amended` is the number of the zone an AMEND ZONE has just
rewritten (R9). -/
def State.reevaluate (amended : Option Nat) (s : State) : State :=
  match s.candidate with
  | some z => if s.plan.governing = some z.number && amended ≠ some z.number then s else s.takeGovernance z
  | none => if s.plan.governing = none then s else s.loseGovernance

/-- The station or its validity may have changed since `old` (R16, R23, R41, R43, R47): a change is
handed to the Plan Store, a loss of validity makes the covered mark sides UNKNOWN, and STATION_INVALID
is re-evaluated. -/
def State.stationChanged (old : StationCounter) (s : State) : State :=
  if old.station = s.station.station && old.valid = s.station.valid then s
  else
    let s₁ : State := if old.valid && !s.station.valid
      then { s with plan.marks := s.plan.marks.map Mark.forgetPosition } else s
    (s₁.reevaluate none).tellStationInvalid

/-! ### Leaving AUTO, freezing, failing to reference (R101, R105, R106, R112) -/

/-- A side leaves AUTO for another state (R101, R57, R134): the settle sequence is abandoned, the slope
override, the profile offer and the mark-inside flags are cleared, and the held demand becomes 0 unless
the side goes to MANUAL. -/
def State.leaveAuto (x : Side) (dest : SideState) (s : State) : State :=
  let d := s.side x
  let s₁ := s.setSide x { d with
    state := dest
    settle := .abandoned
    demand := if dest = .manual then d.demand else 0
    context := { d.context with override := none, offer := none } }
  let s₂ : State := { s₁ with
    plan.marks := s₁.plan.marks.map (fun m => { m with memory := m.memory.leave x }) }
  s₂.tellPlanGap.tellStationInvalid

/-- A side in AUTO enters FROZEN (R105, R106). -/
def State.freeze (x : Side) (s : State) : State := (s.leaveAuto x .frozen).tellSideFrozen

/-- Referencing of a side fails (R112). -/
def State.failReferencing (x : Side) (s : State) : State :=
  (s.setSide x { s.side x with state := .idle, demand := 0, referencing := none }).raiseNotice .referenceFailed

/-- A side's grade channel has left LIVE (R105). -/
def State.gradeLost (x : Side) (s : State) : State :=
  match (s.side x).state with
  | .auto => s.freeze x
  | .referencing => s.failReferencing x
  | _ => s

/-- The CROSS_SLOPE channel has left LIVE (R105). -/
def State.slopeLost (x : Side) (s : State) : State :=
  if (s.side x).state = .auto && (s.side x).mode = .slope then s.freeze x else s

/-- The DRUM_LOAD channel has left LIVE or its drum engaged flag has become no (R105). -/
def State.loadLost (x : Side) (s : State) : State :=
  if (s.side x).state = .referencing then s.failReferencing x else s

/-- A change of a channel's health or drum engaged flag is handed on (R77): `before` is the record as it
stood. -/
def State.handOver (n : Fin 8) (before : Channel) (s : State) : State :=
  let after := s.channel n
  let left := before.health = .live && after.health ≠ .live
  let disengaged := before.engaged && !after.engaged
  if before.health = after.health && before.engaged = after.engaged then s
  else
    match s.roleHeld n with
    | some .leftGrade => (if left then s.gradeLost .left else s).tellSensorLost
    | some .rightGrade => (if left then s.gradeLost .right else s).tellSensorLost
    | some .crossSlope => (if left then (s.slopeLost .left).slopeLost .right else s).tellSensorLost
    | some .drumLoad => (if left || disengaged then (s.loadLost .left).loadLost .right else s).tellSensorLost
    | some .beltPressure => s.tellSensorLost
    | none => s

/-! ### Requests and responses (R187 to R191) -/

/-- A block's answer to a request: the status, the payload of a DONE or CLAMPED response, and the
payload of a second segment (R190, R191). -/
structure Reply where
  status : Status
  payload : List Byte
  second : Option (List Byte)
  deriving DecidableEq, Repr

/-- An answer with a status and no payload. -/
def plain (status : Status) : Reply := ⟨status, [], none⟩

/-- DONE with a payload. -/
def doneWith (payload : List Byte) : Reply := ⟨.done, payload, none⟩

/-- A refused request leaves the state as it was (R2). -/
def refuse (status : Status) (s : State) : State × Reply := (s, plain status)

/-- A taken request answered DONE with no payload. -/
def taken (s : State) : State × Reply := (s, plain .done)

/-- The frame of a request with a code: header and the bytes after it (R186). -/
def requestFrame (code : Nat) (r : Request) : Frame :=
  ⟨r.requester, BitVec.ofNat 8 code :: r.tag :: r.plen :: r.body⟩

/-- A CONSOLE frame has arrived (R193): the supervision timer restarts and the link-loss condition ends. -/
def State.consoleHeard (s : State) : State :=
  ({ s with link.supervision := some Config.supervisionMs, link.linkLoss := false } : State).tellLinkLost

/-- The part of an arrival that does not depend on the queue (R193). -/
def State.heard (q : Requester) (s : State) : State := if q = .console then s.consoleHeard else s

/-- The interface can take a frame now (R187, R194): no reset is held, the response slot is empty, and
no RESTART waits for its reset (DEDUCED, log entry 11). -/
def State.mayTake (s : State) : Bool := s.heldReset.isNone && s.link.response.isNone && !s.link.restartTaken

/-- The state after the interface has taken a frame (R187), `none` when it cannot be this frame that is
taken now. The frame at the head of the queue leaves it; on an empty queue the command stands for the
frame's arrival and its take together (DESIGN CHOICE, log entry 2). -/
def State.takeFrame (f : Frame) (s : State) : Option State :=
  if s.mayTake then
    match s.link.queue with
    | [] => some (s.heard f.requester)
    | g :: rest => if g = f then some { s with link.queue := rest } else none
  else none

/-- The response header and payload (R190). The bytes end with the payload: the spec speaks of the fill bytes
of senders' request frames alone (R186), and the part's own have no place in the model (DESIGN CHOICE, log
entry 18). -/
def responseBytes (code tag : Byte) (status : Status) (payload : List Byte) : List Byte :=
  code :: tag :: byteOf status.code ++ byteOf payload.length ++ payload

/-- The response enters the response slot (R190); a second segment waits behind it (R191). -/
def State.respond (q : Requester) (code tag : Byte) (a : Reply) (s : State) : State :=
  { s with link.response := some {
      requester := q
      data := responseBytes code tag a.status a.payload
      remaining := Config.responseMs
      second := a.second.map (responseBytes code tag a.status) } }

/-- Who may send a request (R189). -/
inductive Grant where
  | all
  | consoleTerminal
  | consolePanel
  | console
  deriving DecidableEq, Repr

/-- The permission test (R189); a panel's side byte, the first of its payload, must name its own side. -/
def Grant.admits (g : Grant) (q : Requester) (p : List Byte) : Bool :=
  match q, g with
  | .console, _ => true
  | _, .all => true
  | .planTerminal, .consoleTerminal => true
  | .leftPanel, .consolePanel => fieldAt p 0 1 = sideCode .left
  | .rightPanel, .consolePanel => fieldAt p 0 1 = sideCode .right
  | _, _ => false

/-- The payload of a request of the given size: the bytes the part reads (R186). -/
def payloadOf (size : Nat) (r : Request) : List Byte := r.body.take size

/-- Tests 2 to 4 of R188 on a taken frame, and the owning block's answer. -/
def judgeRequest (size : Nat) (g : Grant) (act : List Byte → State → State × Reply) (r : Request) (s : State) :
    State × Reply :=
  if r.plen.toNat ≠ size || r.body.length < size then refuse .badRequest s
  else if !g.admits r.requester (payloadOf size r) then refuse .notPermitted s
  else act (payloadOf size r) s

/-- A request command: the interface takes the frame, checks it, hands it to the owning block and places
the response (R187, R188, R190). Where this frame cannot be taken now, nothing happens (log entry 2). -/
def serve (code size : Nat) (g : Grant) (act : List Byte → State → State × Reply) (r : Request) (s : State) :
    State :=
  match s.takeFrame (requestFrame code r) with
  | none => s
  | some t =>
    (judgeRequest size g act r t).1.respond r.requester (BitVec.ofNat 8 code) r.tag (judgeRequest size g act r t).2

end Sys2Proof.Machine
end

