-- ==== Sys2Proof/Machine/Banks.lean ====
section
/-! DEFINITION. The Bank Store's requests (Chapter 6, section 6.2). -/
namespace Sys2Proof.Machine

/-- Writes a bank by name. -/
def State.setBank (n : BankName) (b : Bank) (s : State) : State :=
  match n with
  | .soft => { s with banks.soft := b }
  | .hard => { s with banks.hard := b }

/-- WRITE BANK (R126, R127): a write to the active bank brings the held demands within the new limits. -/
def writeBank (p : List Byte) (s : State) : State × Reply :=
  match bankNameOf (fieldAt p 0 1) with
  | none => refuse .outOfRange s
  | some n =>
    let b := bankOfBytes (p.drop 1)
    if b.inRange then
      taken (if s.banks.active = n then (s.setBank n b).limitDemands else s.setBank n b)
    else refuse .outOfRange s

/-- READ BANK (R129, R199). -/
def readBank (p : List Byte) (s : State) : State × Reply :=
  match bankNameOf (fieldAt p 0 1) with
  | none => refuse .outOfRange s
  | some n => (s, doneWith (bankBytes (s.bank n) ++ flagBytes (s.banks.active = n)))

/-- WRITE BANK, code 0x50. -/
def execWriteBank (r : Request) (s : State) : Answer := .next (serve 0x50 21 .console writeBank r s)

/-- READ BANK, code 0x51. -/
def execReadBank (r : Request) (s : State) : Answer := .next (serve 0x51 1 .all readBank r s)

end Sys2Proof.Machine
end

