-- ==== Sys2Proof/Machine/Target.lean ====
section
/-! DEFINITION. The target computation of the Profile Unit (Chapter 3): plan depth, trim, mark envelopes,
the slope override, the lookahead and the MARK_AHEAD memory. -/
namespace Sys2Proof.Machine

/-! ### Stages 1 and 2: plan depth and trim (R51, R53, R59) -/

/-- The forward travel since the entry capture, clamped to 0..r (R51). -/
def rampProgress (sense : Sense) (entry station : Nat) (ramp : Nat) : Int :=
  bringWithin 0 ramp (sense.casesOn ((station : Int) - entry) ((entry : Int) - station))

/-- The plan depth along a ramp from E to the zone depth (R51). -/
def rampDepth (entryDepth zoneDepth : Int) (ramp : Nat) (progress : Int) : Int :=
  if ramp = 0 then zoneDepth else entryDepth + ((zoneDepth - entryDepth) * progress).tdiv ramp

/-- Stage 1 (R51, R53). A side under PLAN always has a governing zone (R55); were there none, the last
plan depth would stand (log entry 6). -/
def State.stage1 (x : Side) (s : State) : Int :=
  let c := (s.side x).context
  match c.source, s.governingZone with
  | .hold, _ => c.holdDepth
  | .plan, some z =>
    rampDepth c.entryDepth (z.depth x) z.fields.ramp
      (rampProgress s.station.sense c.entryStation s.station.station z.fields.ramp)
  | .plan, none => c.planDepth

/-- Stage 2 (R59): the trimmed depth T. -/
def State.stage2 (x : Side) (s : State) : Int := s.clampDepth (s.stage1 x + (s.side x).trim)

/-! ### Stage 3: mark envelopes (R60 to R63) -/

/-- The half-chord in cm of a drum of radius R mm at a reference depth (R61). -/
def halfChord (radius : Nat) (dref : Int) : Nat := divUp (isqrt (dref * (20 * (radius : Int) - dref)).toNat) 100

/-- The near end of a mark's protected extent (R61). -/
def extentLo (radius : Nat) (dref : Int) (m : MarkFields) : Int := (m.start : Int) - halfChord radius dref

/-- The far end of a mark's protected extent (R61). -/
def extentHi (radius : Nat) (dref : Int) (m : MarkFields) : Int :=
  (m.start : Int) + m.length - 1 + halfChord radius dref

/-- An envelope of clearance `c` and gradient `g` about the extent `lo..hi`, at a station (R62). -/
def envelopeAt (c g : Nat) (lo hi station : Int) : Int :=
  if station < lo then (c : Int) + g * (lo - station)
  else if hi < station then (c : Int) + g * (station - hi)
  else c

/-- The radius of the latched drum class (R31). -/
def State.radius (s : State) : Nat := Config.drumRadius s.station.drumClass

/-- The gradient of a mark: its own, or the geometry record's (R22, R62). -/
def State.gradient (m : MarkFields) (s : State) : Nat := m.gradient.getD s.station.geometry.markGradient

/-- The envelope of a mark at S, for a reference depth (R62). -/
def State.envelope (dref : Int) (m : MarkFields) (s : State) : Int :=
  envelopeAt m.clearance (s.gradient m) (extentLo s.radius dref m) (extentHi s.radius dref m) s.station.station

/-- The position of a covering mark at S, for a reference depth (R63). -/
def State.positionOf (dref : Int) (m : MarkFields) (s : State) : MarkPosition :=
  if extentLo s.radius dref m ≤ s.station.station ∧ (s.station.station : Int) ≤ extentHi s.radius dref m then
    .isProtected
  else if s.envelope dref m < dref then .approach
  else .clear

/-- The marks that cover a side (R60). -/
def State.covering (x : Side) (s : State) : List MarkFields :=
  (s.plan.marks.map Mark.fields).filter (MarkFields.covers x)

/-- The reference depth of a side (R60), D_cap under an override (R67), the computation that ends it included
(DEDUCED, log entry 9). -/
def State.referenceDepth (x : Side) (s : State) : Int :=
  let d := s.side x
  match d.mode, d.context.override with
  | .grade, _ => s.stage2 x
  | .slope, some cap => cap
  | .slope, none => s.cutDepth x

/-- The smallest of a depth and the envelopes of the covering marks, clamped (R63, R64, R66, R67). -/
def State.underEnvelopes (x : Side) (dref depth : Int) (s : State) : Int :=
  s.clampDepth ((s.covering x).foldl (fun low m => min low (s.envelope dref m)) depth)

/-- The station is valid and some covering mark is APPROACH or PROTECTED (R66, R68). -/
def State.markNear (x : Side) (dref : Int) (s : State) : Bool :=
  s.station.valid && (s.covering x).any (fun m => s.positionOf dref m ≠ .clear)

/-! ### Lookahead and the profile limit (R69, R70) -/

/-- The approach length of a mark (R69). -/
def approachLength (dref : Int) (c g : Nat) : Nat := if dref ≤ c then 0 else divUp (dref - c).toNat g

/-- S lies in a mark's lookahead region (R69). -/
def State.inRegion (dref : Int) (m : MarkFields) (s : State) : Bool :=
  let lo := extentLo s.radius dref m
  let hi := extentHi s.radius dref m
  let reach : Int := approachLength dref m.clearance (s.gradient m) + s.station.geometry.lookaheadLead
  let st : Int := s.station.station
  match s.station.sense with
  | .ascending => lo - reach ≤ st && st ≤ hi
  | .descending => lo ≤ st && st ≤ hi + reach

/-- The speed limit a mark of gradient `g` offers (R70). -/
def speedLimit (raiseMax g : Nat) : Nat := raiseMax * 10 / g

/-- The smaller of two optional limits, none when both are (R70). -/
def minLimit : Option Nat → Option Nat → Option Nat
  | some a, some b => some (min a b)
  | some a, none => some a
  | none, b => b

/-- A side's profile offer (R70). -/
def State.offerOf (x : Side) (dref : Int) (s : State) : Option Nat :=
  if s.station.valid then
    ((s.covering x).filter (fun m => s.inRegion dref m)).foldl
      (fun low m => minLimit low (some (speedLimit s.activeBank.raiseMax (s.gradient m)))) none
  else none

/-! ### The marks after a computation (R23, R71) -/

/-- The drum is in a mark's lookahead region for a side (R71 item 1). -/
def State.insideNow (x : Side) (dref : Int) (m : MarkFields) (s : State) : Bool :=
  m.covers x && s.station.valid && s.inRegion dref m

/-- The memory with a side's inside flag written (R71 item 1). -/
def MarkMemory.enter (x : Side) (v : Bool) (m : MarkMemory) : MarkMemory :=
  match x with
  | .left => { m with insideLeft := v }
  | .right => { m with insideRight := v }

/-- The announced flag after items 2 and 3 of R71. -/
def MarkMemory.settle (v : Bool) (m : MarkMemory) : MarkMemory :=
  { m with announced := (m.announced || v) && (m.insideLeft || m.insideRight) }

/-- The mark is announced by this computation (R71 item 2). -/
def State.announces (x : Side) (dref : Int) (s : State) (m : Mark) : Bool :=
  s.insideNow x dref m.fields && !m.memory.announced

/-- The position of a mark written for one side (R23). -/
def Mark.setPosition (x : Side) (p : MarkPosition) (m : Mark) : Mark :=
  match x with
  | .left => { m with posLeft := p }
  | .right => { m with posRight := p }

/-- A mark after a computation of a side: its position where it covers the side and the station is
valid (R23, R60), and its memory (R71). -/
def State.markAfter (x : Side) (dref : Int) (s : State) (m : Mark) : Mark :=
  let inside := s.insideNow x dref m.fields
  let m₁ := if s.station.valid && m.fields.covers x then m.setPosition x (s.positionOf dref m.fields) else m
  { m₁ with memory := (m.memory.enter x inside).settle inside }

/-! ### The control reference (R49, R63 to R68) -/

/-- What a computation decides of a side's control: the depth target it records, the basis, the slope
target, the override, and whether the settle sequence restarts. -/
structure Control where
  depthTarget : Int
  basis : Basis
  slopeTarget : Int
  override : Option Int
  restart : Bool
  deriving DecidableEq, Repr

/-- The slope target of a side in SLOPE mode (R65). -/
def State.slopeTargetOf (x : Side) (s : State) : Int :=
  match s.governingZone.bind (fun z => z.fields.slope) with
  | some v => v
  | none => (s.side x).context.heldSlope

/-- The control reference of a computation (R49): depth for a GRADE side (R63, R64); for a SLOPE side
slope, or depth under a slope override, which begins (R66), goes on (R67) or ends (R68) here. -/
def State.control (x : Side) (s : State) : Control :=
  let d := s.side x
  let dref := s.referenceDepth x
  let t := s.stage2 x
  match d.mode, d.context.override, s.markNear x dref with
  | .grade, o, _ =>
    { depthTarget := if s.station.valid then s.underEnvelopes x dref t else s.clampDepth t
      basis := .depth, slopeTarget := d.context.slopeTarget, override := o, restart := false }
  | .slope, none, true =>
    { depthTarget := s.underEnvelopes x dref dref
      basis := .depth, slopeTarget := s.slopeTargetOf x, override := some dref, restart := true }
  | .slope, none, false =>
    { depthTarget := t, basis := .slope, slopeTarget := s.slopeTargetOf x, override := none, restart := false }
  | .slope, some cap, true =>
    { depthTarget := s.underEnvelopes x dref cap
      basis := .depth, slopeTarget := s.slopeTargetOf x, override := some cap, restart := false }
  | .slope, some _, false =>
    { depthTarget := t, basis := .slope, slopeTarget := s.slopeTargetOf x, override := none, restart := true }

/-- The plan context after a computation (R49 item 5). -/
def State.contextAfter (x : Side) (s : State) : PlanContext :=
  let k := s.control x
  { (s.side x).context with
    planDepth := s.stage1 x
    depthTarget := k.depthTarget
    basis := k.basis
    slopeTarget := k.slopeTarget
    override := k.override
    offer := s.offerOf x (s.referenceDepth x) }

/-- One target computation of a side (R49): the results are recorded, the positions handed to the Plan
Store, and MARK_AHEAD raised once for each mark newly entered (R71). -/
def State.computeTarget (x : Side) (s : State) : State :=
  let dref := s.referenceDepth x
  ({ s.setContext x (s.contextAfter x) with
    plan.marks := s.plan.marks.map (s.markAfter x dref) } : State).raiseTimes .markAhead
      (s.plan.marks.filter (s.announces x dref)).length

end Sys2Proof.Machine
end

