-- ==== Sys2Proof/Machine/Governor.lean ====
section
/-! DEFINITION. The Advance Governor (Chapter 7): the ceiling and its sources, the operator cap, the
ceiling message and the load reduction. -/
namespace Sys2Proof.Machine

/-! ### The in-cut judgment (R140), which the conveyor makes alike (R157) -/

/-- The judgment from the two measured depths, the threshold, and the judgment before. -/
def inCutAfter (left right : Option Int) (threshold : Nat) (before : Bool) : Bool :=
  match left, right with
  | none, none => before
  | some a, none => (threshold : Int) ≤ a
  | none, some b => (threshold : Int) ≤ b
  | some a, some b => (threshold : Int) ≤ a || (threshold : Int) ≤ b

/-- The judgment at this moment (R140, R157). -/
def State.judgeInCut (before : Bool) (s : State) : Bool :=
  inCutAfter (s.measuredDepth .left) (s.measuredDepth .right) s.station.geometry.inCutThreshold before

/-! ### The ceiling (R138, R139) -/

/-- The offer of the Profile Unit: the smaller of the two sides' offers (R70). -/
def State.profileOffer (s : State) : Option Nat := minLimit s.left.context.offer s.right.context.offer

/-- The LOAD source (R138). -/
def loadLimit (cap reduction : Nat) : Nat := cap * (100 - reduction) / 100

/-- A source that is 0 while its condition holds (R138). -/
def stopWhile (b : Bool) : Option Nat := if b then some 0 else none

/-- The sources in their order, each with its value while present (R138); `inCut` is the judgment of this
expiry. -/
def State.sources (inCut : Bool) (s : State) : List (Reason × Option Nat) :=
  [(.operator, some s.governor.cap),
   (.zone, s.governingZone.bind (fun z => z.fields.cap)),
   (.load, some (loadLimit s.governor.cap s.governor.reduction)),
   (.profile, s.profileOffer),
   (.fill, stopWhile s.conveyor.fillLatch),
   (.freeze, stopWhile (s.sideFrozen && inCut)),
   (.belt, stopWhile (s.conveyor.state = .blocked)),
   (.link, stopWhile s.link.linkLoss),
   (.reference, stopWhile (s.left.state = .referencing || s.right.state = .referencing))]

/-- Takes a source into the minimum: the ceiling and the reason so far stay unless the source is present
and lies strictly below (R139). -/
def takeSource (best : Nat × Reason) (src : Reason × Option Nat) : Nat × Reason :=
  match src.2 with
  | some v => if v < best.1 then (v, src.1) else best
  | none => best

/-- The smallest present source and the first that has its value (R139); OPERATOR is always present. -/
def ceilingOf (cap : Nat) (sources : List (Reason × Option Nat)) : Nat × Reason :=
  sources.foldl takeSource (cap, .operator)

/-- The four bytes of a ceiling message (R144, R196, R199). -/
def ceilingBytes (ceiling : Nat) (reason : Reason) (count : Byte) : List Byte :=
  beBytes 2 ceiling ++ byteOf reason.code ++ [count]

/-- One governor interval (R138, R139, R140, R144, R145). -/
def State.governorInterval (s : State) : State :=
  let inCut := s.judgeInCut s.governor.inCut
  let best := ceilingOf s.governor.cap (s.sources inCut)
  { s with
    governor := { s.governor with
      inCut := inCut
      ceiling := best.1
      reason := best.2
      profileLimit := s.profileOffer
      count := s.governor.count + 1
      formed := true }
    sensorLink.ceilingMessage := some (ceilingBytes best.1 best.2 s.governor.count) }

/-! ### The operator cap (R142, R143) -/

/-- SET ADVANCE CAP: clamped to 0..600, and the held ceiling lowered at once when it stands above. -/
def setAdvanceCap (p : List Byte) (s : State) : State × Reply :=
  let v := signedAt p 0 2
  let cap := (bringWithin 0 Config.capMax v).toNat
  let g := s.governor
  let g₁ : Governor :=
    if cap < g.ceiling then { g with cap := cap, ceiling := cap, reason := .operator } else { g with cap := cap }
  ({ s with governor := g₁ }, ⟨if (cap : Int) = v then .done else .clamped, beBytes 2 cap, none⟩)

/-- READ GOVERNOR (R152, R199). -/
def readGovernor (_ : List Byte) (s : State) : State × Reply :=
  let g := s.governor
  (s, doneWith (beBytes 2 g.ceiling ++ byteOf g.reason.code ++ byteOf g.reduction ++ byteOf g.belowCount ++
    beBytes 2 g.cap ++ presentBytes 2 (g.profileLimit.map (fun v => (v : Int))) ++ flagBytes g.inCut ++
    (if g.formed then byteOf 1 ++ [g.count - 1] else byteOf 0 ++ byteOf 0)))

/-! ### Load reduction (R146 to R149) -/

/-- One step up of the load reduction (R147). -/
def stepUp (r : Nat) : Nat := if r < 70 then r + 10 else 70

/-- One step of release of the load reduction (R148). -/
def stepDown (r : Nat) : Nat := if r = 100 then 70 else r - 10

/-- The load reduction and the below-window count after a judged window (R147, R148). -/
def afterWindow (load : Int) (threshold r count : Nat) : Nat × Nat :=
  if (Config.stallLoad : Int) ≤ load then (100, 0)
  else if (threshold : Int) ≤ load then (stepUp r, 0)
  else if (threshold : Int) - 5 ≤ load then (r, 0)
  else if count = 0 then (r, 1)
  else (stepDown r, 0)

/-- The notice a judged window raises (R149). -/
def windowNotice (load : Int) (threshold r : Nat) : Option Notice :=
  if (Config.stallLoad : Int) ≤ load then (if r < 100 then some .stallGuard else none)
  else if (threshold : Int) ≤ load && r = 0 then some .loadHigh
  else none

/-- One load window (R146): judged only when the DRUM_LOAD channel is assigned and LIVE. -/
def State.loadWindow (s : State) : State :=
  match s.drumLoad with
  | none => s
  | some load =>
    let θ := s.activeBank.loadThreshold
    let g := s.governor
    let out := afterWindow load θ g.reduction g.belowCount
    let t : State := { s with governor.reduction := out.1, governor.belowCount := out.2 }
    match windowNotice load θ g.reduction with
    | some n => t.raiseNotice n
    | none => t

/-! ### The commands -/

/-- SET ADVANCE CAP, code 0x58. -/
def execSetAdvanceCap (r : Request) (s : State) : Answer := .next (serve 0x58 2 .console setAdvanceCap r s)

/-- READ GOVERNOR, code 0x59. -/
def execReadGovernor (r : Request) (s : State) : Answer := .next (serve 0x59 0 .all readGovernor r s)

/-- The 50 ms governor interval expires (R138). -/
def execGovernorIntervalExpiry (s : State) : Answer :=
  .next (s.whileRunning { s.governorInterval with timers.governor := Config.governorMs })

/-- The 500 ms load window expires (R146). -/
def execLoadWindowExpiry (s : State) : Answer :=
  .next (s.whileRunning { s.loadWindow with timers.loadWindow := Config.loadWindowMs })

end Sys2Proof.Machine
end

