-- ==== Sys2Proof/Machine/Station.lean ====
section
/-! DEFINITION. The geometry record and the Station Counter (Chapter 2): their requests, the encoder's
counts, and the speed window. -/
namespace Sys2Proof.Machine

/-! ### The geometry record (R33 to R36) -/

/-- The fill-limit latch against a fill and a geometry record (R35, R166). -/
def latchAfter (g : Geometry) (fill : Nat) (latch : Bool) : Bool :=
  if g.fillHigh * g.housingCapacity / 100 ≤ fill then true
  else if fill ≤ g.fillLow * g.housingCapacity / 100 then false
  else latch

/-- Re-evaluates the fill-limit latch, and FILL_HIGH with it (R35, R166). -/
def State.reviewLatch (s : State) : State :=
  ({ s with conveyor.fillLatch :=
    latchAfter s.station.geometry s.conveyor.fill s.conveyor.fillLatch } : State).tellFillHigh

/-- The excess of the housing fill over the stored capacity moves to spill and raises SPILL (R35). -/
def State.spillExcess (s : State) : State :=
  let cap := s.station.geometry.housingCapacity
  let c := s.conveyor
  if cap < c.fill then
    ({ s with conveyor.fill := cap, conveyor.spill := c.spill + (c.fill - cap) } : State).raiseNotice .spill
  else s

/-- A taken geometry record and its effects (R33, R34, R35). -/
def State.storeGeometry (g : Geometry) (s : State) : State :=
  (({ s with
    station.geometry := g
    conveyor.fixedSpeed := bringWithinNat g.beltMin g.beltMax s.conveyor.fixedSpeed } : State).spillExcess).reviewLatch

/-- WRITE GEOMETRY (R33). -/
def writeGeometry (p : List Byte) (s : State) : State × Reply :=
  match checkedGeometry p with
  | none => refuse .outOfRange s
  | some g => taken (s.storeGeometry g)

/-- READ GEOMETRY (R36, R199). -/
def readGeometry (_ : List Byte) (s : State) : State × Reply :=
  let c := s.station.drumClass
  (s, doneWith (geometryBytes s.station.geometry ++ byteOf c.val ++ beBytes 2 (Config.drumWidth c) ++
    beBytes 2 (Config.drumRadius c) ++ beBytes 2 (Config.drumMax c)))

/-! ### The station (R43, R45, R46) -/

/-- A side is in AUTO with source PLAN (R43). -/
def State.underPlan (s : State) : Bool :=
  (s.left.state = .auto && s.left.context.source = .plan) || (s.right.state = .auto && s.right.context.source = .plan)

/-- A taken fix (R43). -/
def State.fixAt (st : Nat) (s : State) : State :=
  ({ s with station.station := st, station.fine := 0, station.valid := true } : State).stationChanged s.station

/-- FIX STATION (R43). -/
def fixStation (p : List Byte) (s : State) : State × Reply :=
  let st := fieldAt p 0 4
  if Config.stationMax < st then refuse .outOfRange s
  else if s.station.valid && s.underPlan && Config.fixWindow < ((st : Int) - (s.station.station : Int)).natAbs then
    refuse .fixTooFar s
  else taken (s.fixAt st)

/-- SET TRAVEL SENSE (R45). -/
def setTravelSense (p : List Byte) (s : State) : State × Reply :=
  match senseOf (fieldAt p 0 1) with
  | none => refuse .outOfRange s
  | some v => if s.anyAuto then refuse .wrongState s else taken { s with station.sense := v }

/-- READ STATION (R46, R199). -/
def readStation (_ : List Byte) (s : State) : State × Reply :=
  let c := s.station
  (s, doneWith (beBytes 4 c.station ++ beBytes 2 c.fine ++ flagBytes c.valid ++ byteOf c.sense.code ++
    intBytes 2 (bringWithin (-32768) 32767 c.speed)))

/-! ### Encoder counts (R38 to R41) -/

/-- A change of level on one input moves the pair in the order in which ENCA leads ENCB (R38): a change
of ENCA finds the levels equal, a change of ENCB finds them different. -/
def StationCounter.isForward (e : EncoderInput) (c : StationCounter) : Bool :=
  match e with
  | .encA => c.phaseA = c.phaseB
  | .encB => c.phaseA ≠ c.phaseB

/-- The levels after a change on one input (R38). -/
def StationCounter.movePhase (e : EncoderInput) (c : StationCounter) : StationCounter :=
  match e with
  | .encA => { c with phaseA := !c.phaseA }
  | .encB => { c with phaseB := !c.phaseB }

/-- Pins the station at a limit (R40). -/
def StationCounter.pin (limit : Nat) (c : StationCounter) : StationCounter :=
  { c with station := limit, fine := 0, valid := false }

/-- S stands pinned at the upper limit (R40): there with f = 0 and INVALID (DEDUCED, log entry 7: R37
holds no flag for it). At the lower limit an outward count from f = 0 borrows and pins again by itself. -/
def StationCounter.pinnedHigh (c : StationCounter) : Bool :=
  !c.valid && c.fine = 0 && c.station = Config.stationMax

/-- Adds a signed travel to S and f (R39, R40). -/
def StationCounter.accumulate (d : Int) (c : StationCounter) : StationCounter :=
  let f : Int := (c.fine : Int) + d
  if (Config.carryAt : Int) ≤ f then
    if c.station < Config.stationMax then
      { c with station := c.station + 1, fine := (f - Config.carryAt).toNat }
    else c.pin Config.stationMax
  else if f < 0 then
    if 0 < c.station then { c with station := c.station - 1, fine := (f + Config.carryAt).toNat }
    else c.pin 0
  else if c.pinnedHigh && 0 < d then c.pin Config.stationMax
  else { c with fine := f.toNat }

/-- The travel of a count as machine motion (R39): forward positive. -/
def StationCounter.travel (e : EncoderInput) (c : StationCounter) : Int :=
  if c.isForward e then (c.geometry.encoderDistance : Int) else -(c.geometry.encoderDistance : Int)

/-- A travel as the station sees it: negated in the DESCENDING sense (R39). -/
def Sense.orient (sense : Sense) (d : Int) : Int :=
  match sense with
  | .ascending => d
  | .descending => -d

/-- One count on the counter's own state (R38 to R40, R42). -/
def StationCounter.count (e : EncoderInput) (c : StationCounter) : StationCounter :=
  let d := c.travel e
  ({ c with accum := c.accum + d }.movePhase e).accumulate (c.sense.orient d)

/-! ### The commands -/

/-- WRITE GEOMETRY, code 0x20. -/
def execWriteGeometry (r : Request) (s : State) : Answer := .next (serve 0x20 30 .console writeGeometry r s)

/-- READ GEOMETRY, code 0x21. -/
def execReadGeometry (r : Request) (s : State) : Answer := .next (serve 0x21 0 .all readGeometry r s)

/-- FIX STATION, code 0x22. -/
def execFixStation (r : Request) (s : State) : Answer := .next (serve 0x22 4 .consoleTerminal fixStation r s)

/-- SET TRAVEL SENSE, code 0x23. -/
def execSetTravelSense (r : Request) (s : State) : Answer := .next (serve 0x23 1 .console setTravelSense r s)

/-- READ STATION, code 0x24. -/
def execReadStation (r : Request) (s : State) : Answer := .next (serve 0x24 0 .all readStation r s)

/-- A single-step change on one encoder input (R38, R39, R40, R41). -/
def execEncoderCount (e : EncoderInput) (s : State) : Answer :=
  .next (s.whileRunning (({ s with station := s.station.count e } : State).stationChanged s.station))

/-- A change of both inputs at once (R38): the new levels are adopted, and no count is taken. -/
def execEncoderDoubleStep (s : State) : Answer :=
  .next (s.whileRunning
    { s with station.phaseA := !s.station.phaseA, station.phaseB := !s.station.phaseB })

/-- The speed window expires (R42). -/
def execSpeedWindowExpiry (s : State) : Answer :=
  .next (s.whileRunning { s with
    station.speed := s.station.accum.tdiv 100, station.accum := 0, timers.speedWindow := Config.speedWindowMs })

end Sys2Proof.Machine
end

