-- ==== Sys2Proof/Machine/Conveyor.lean ====
section
/-! DEFINITION. The Conveyor Controller (Chapter 8): its states and requests, the nine stages of its
interval, the material account, the truck cycle and the belt output. -/
namespace Sys2Proof.Machine

/-! ### Entering a state -/

/-- The belt speed of RUNNING (R162): the needed speed, or the belt minimum before one has been formed,
under AUTO; the fixed speed under FIXED. -/
def Conveyor.runningSpeed (beltMin : Nat) (c : Conveyor) : Nat :=
  match c.beltMode with
  | .auto => c.neededSpeed.getD beltMin
  | .fixed => c.fixedSpeed

/-- RUNNING is entered (R160, R162, R170): a run-on is discarded. -/
def Conveyor.enterRunning (beltMin : Nat) (c : Conveyor) : Conveyor :=
  { c with state := .running, runOnSpeed := none, runOnCount := 0, beltSpeed := c.runningSpeed beltMin }

/-- RUN_ON is entered (R158, R161). -/
def Conveyor.enterRunOn (time : Nat) (c : Conveyor) : Conveyor :=
  { c with state := .runOn, runOnSpeed := some c.beltSpeed, runOnCount := time }

/-- STOPPED, HELD or BLOCKED is entered (R159, R168, R171): the belt stands, a run-on is discarded and
the block count is 0. -/
def Conveyor.stand (dest : ConveyorState) (c : Conveyor) : Conveyor :=
  { c with state := dest, beltSpeed := 0, runOnSpeed := none, runOnCount := 0, blockCount := 0 }

/-- Rewrites the Conveyor Controller. -/
def State.mapConveyor (f : Conveyor → Conveyor) (s : State) : State := { s with conveyor := f s.conveyor }

/-- The conveyor goes to RUNNING with the geometry record as it stands. -/
def State.startBelt (s : State) : State := s.mapConveyor (Conveyor.enterRunning s.station.geometry.beltMin)

/-- The belt is running or running on. -/
def Conveyor.turning (c : Conveyor) : Bool := c.state = .running || c.state = .runOn

/-! ### The stages of the interval (R156) -/

/-- Stages 1 and 2 (R157, R158): the judgment, and what its change does to the state. -/
def State.conveyorCut (s : State) : State :=
  let g := s.station.geometry
  let before := s.conveyor.inCut
  let now := s.judgeInCut before
  s.mapConveyor fun c =>
    let c₁ := { c with inCut := now }
    match c.state, before, now with
    | .stopped, false, true => if g.autoStart then c₁.enterRunning g.beltMin else c₁
    | .runOn, false, true => c₁.enterRunning g.beltMin
    | .running, true, false => c₁.enterRunOn g.runOnTime
    | _, _, _ => c₁

/-- The block count after a judgement of the belt pressure (R171). -/
def blockCountAfter (pressure : Option Int) (limit count : Nat) : Nat :=
  match pressure with
  | some p => if (limit : Int) ≤ p then count + 1 else 0
  | none => count

/-- Stage 3 (R171). -/
def State.conveyorBlock (s : State) : State :=
  if s.conveyor.turning then
    let n := blockCountAfter s.beltPressure s.station.geometry.blockPressure s.conveyor.blockCount
    if Config.blockIntervals ≤ n then (s.mapConveyor (Conveyor.stand .blocked)).tellBeltBlocked
    else s.mapConveyor (fun c => { c with blockCount := n })
  else s

/-- Stage 4 (R159): a run-on that was entered before this expiry is counted down; `was` is the state at
the expiry's beginning. -/
def State.conveyorRunOn (was : ConveyorState) (s : State) : State :=
  if was = .runOn && s.conveyor.state = .runOn then
    if s.conveyor.runOnCount ≤ 1 then s.mapConveyor (Conveyor.stand .stopped)
    else s.mapConveyor (fun c => { c with runOnCount := c.runOnCount - 1 })
  else s

/-- The mean depth an inflow is formed from (R163). -/
def meanDepth (left right : Option Int) : Option Nat :=
  match left, right with
  | some a, some b => some ((a.toNat + b.toNat) / 2)
  | some a, none => some a.toNat
  | none, some b => some b.toNat
  | none, none => none

/-- The inflow of a mean depth: solid volume, then loose volume (R163). -/
def inflowOf (dm width speed swell : Nat) : Nat := dm * width * speed / 10000 * swell / 10000

/-- Stage 5 (R163): the inflow of this interval. -/
def State.inflow (s : State) : Nat :=
  if !s.conveyor.inCut || s.station.speed ≤ 0 then 0
  else match meanDepth (s.measuredDepth .left) (s.measuredDepth .right) with
    | some dm => inflowOf dm (Config.drumWidth s.station.drumClass) s.station.speed.toNat s.station.geometry.swell
    | none => s.conveyor.lastInflow

/-- The needed speed of an inflow (R164). -/
def neededSpeedOf (g : Geometry) (q : Nat) : Nat :=
  bringWithinNat g.beltMin g.beltMax (divUp (divUp (q * 100) g.beltLoad * (100 + g.beltMargin)) 100)

/-- The belt speed of a state (R162), with the needed speed formed. -/
def Conveyor.speedNow (beltMin : Nat) (c : Conveyor) : Nat :=
  match c.state with
  | .running => c.runningSpeed beltMin
  | .runOn => c.runOnSpeed.getD 0
  | _ => 0

/-- Stages 5 and 6 (R163, R164): inflow, needed speed and belt speed. -/
def State.conveyorSpeed (s : State) : State :=
  let q := s.inflow
  let g := s.station.geometry
  s.mapConveyor fun c =>
    let c₁ := { c with lastInflow := q, neededSpeed := some (neededSpeedOf g q) }
    { c₁ with beltSpeed := c₁.speedNow g.beltMin }

/-- The capacity of an interval (R164). -/
def capacityOf (beltSpeed beltLoad : Nat) : Nat := beltSpeed * beltLoad / 100

/-- The totals as CLEAR TOTALS leaves them (R173). -/
def Conveyor.clearTotals (c : Conveyor) : Conveyor := { c with milled := c.fill, delivered := 0, spill := 0 }

/-- The material account of one step (R165, R173): `cap` is the belt's capacity in this interval,
`housing` the housing capacity. -/
def Conveyor.account (q cap housing : Nat) (c : Conveyor) : Conveyor :=
  let avail := c.fill + q
  let out := min avail cap
  let h := avail - out
  let c₁ : Conveyor := { c with
    fill := min h housing
    spill := c.spill + (h - housing)
    milled := c.milled + q
    delivered := c.delivered + out
    truckCounter := min Config.truckCounterMax (c.truckCounter + out) }
  if Config.milledMax < c₁.milled then c₁.clearTotals else c₁

/-- The step overflows a housing that stood below its capacity (R165): SPILL is raised. -/
def Conveyor.overflows (q cap housing : Nat) (c : Conveyor) : Bool :=
  c.fill < housing && housing < c.fill + q - min (c.fill + q) cap

/-- Stage 7 (R165, R167). -/
def State.conveyorFill (s : State) : State :=
  let g := s.station.geometry
  let c := s.conveyor
  let cap := capacityOf c.beltSpeed g.beltLoad
  let t := s.mapConveyor (Conveyor.account c.lastInflow cap g.housingCapacity)
  (if c.overflows c.lastInflow cap g.housingCapacity then t.raiseNotice .spill else t).tellTruckFull

/-- The truck-full decision (R168). -/
def State.truckDecision (s : State) : State :=
  if s.truckFull && s.station.geometry.holdOnFull && s.conveyor.turning then s.mapConveyor (Conveyor.stand .held)
  else s

/-- Stages 1 to 3 of an interval. -/
def State.conveyorFirst (s : State) : State := s.conveyorCut.conveyorBlock

/-- One conveyor interval: the nine stages in order (R156). -/
def State.conveyorInterval (s : State) : State :=
  (((s.conveyorFirst.conveyorRunOn s.conveyor.state).conveyorSpeed).conveyorFill).reviewLatch.truckDecision

/-- The conveyor interval at which the run-on count reaches 0 (R159). -/
def State.runOnDue (s : State) : Bool :=
  s.conveyor.state = .runOn && s.conveyorFirst.conveyor.state = .runOn && s.conveyor.runOnCount ≤ 1

/-! ### The requests -/

/-- CONVEYOR START (R160). -/
def conveyorStart (_ : List Byte) (s : State) : State × Reply :=
  match s.conveyor.state with
  | .stopped => taken s.startBelt
  | .runOn => taken s.startBelt
  | .running => taken s
  | .held => refuse .wrongState s
  | .blocked => refuse .wrongState s

/-- CONVEYOR STOP (R161). -/
def conveyorStop (_ : List Byte) (s : State) : State × Reply :=
  match s.conveyor.state with
  | .running => taken (s.mapConveyor (Conveyor.enterRunOn s.station.geometry.runOnTime))
  | .held => taken (s.mapConveyor (Conveyor.stand .stopped))
  | _ => taken s

/-- A belt mode is taken: in RUNNING the belt speed follows at once (R162). -/
def State.takeBeltMode (m : BeltMode) (speed : Nat) (s : State) : State :=
  s.mapConveyor fun c =>
    let c₁ := { c with beltMode := m, fixedSpeed := speed }
    if c.state = .running then { c₁ with beltSpeed := c₁.runningSpeed s.station.geometry.beltMin } else c₁

/-- SET BELT MODE (R162): a fixed speed is clamped to the belt range; answered with the mode and the
stored fixed speed. -/
def setBeltMode (p : List Byte) (s : State) : State × Reply :=
  let g := s.station.geometry
  match beltModeOf (fieldAt p 0 1) with
  | none => refuse .outOfRange s
  | some .auto =>
    (s.takeBeltMode .auto s.conveyor.fixedSpeed,
      doneWith (byteOf BeltMode.auto.code ++ beBytes 2 s.conveyor.fixedSpeed))
  | some .fixed =>
    let v := fieldAt p 1 2
    let stored := bringWithinNat g.beltMin g.beltMax v
    (s.takeBeltMode .fixed stored,
      ⟨if stored = v then .done else .clamped, byteOf BeltMode.fixed.code ++ beBytes 2 stored, none⟩)

/-- TRUCK AWAY (R169). -/
def truckAway (_ : List Byte) (s : State) : State × Reply :=
  match s.conveyor.state with
  | .running => taken (s.mapConveyor (Conveyor.stand .held))
  | .runOn => taken (s.mapConveyor (Conveyor.stand .held))
  | .held => taken s
  | .stopped => refuse .wrongState s
  | .blocked => refuse .wrongState s

/-- TRUCK READY (R170). -/
def truckReady (_ : List Byte) (s : State) : State × Reply :=
  let t : State := ({ s with conveyor.truckCounter := 0 } : State).tellTruckFull
  if s.conveyor.state = .held then taken t.startBelt else taken t

/-- SET TRUCK TARGET (R167, R168): clamped to 0..40,000 L. -/
def setTruckTarget (p : List Byte) (s : State) : State × Reply :=
  let v := signedAt p 0 4
  let stored := (bringWithin 0 Config.truckTargetMax v).toNat
  (({ s with conveyor.truckTarget := stored } : State).tellTruckFull.truckDecision,
    ⟨if (stored : Int) = v then .done else .clamped, beBytes 2 stored, none⟩)

/-- The belt pressure is valid and at or above the block pressure (R172). -/
def State.pressureHigh (s : State) : Bool :=
  match s.beltPressure with
  | some p => (s.station.geometry.blockPressure : Int) ≤ p
  | none => false

/-- CLEAR BLOCK (R172). -/
def clearBlock (_ : List Byte) (s : State) : State × Reply :=
  if s.conveyor.state ≠ .blocked then refuse .wrongState s
  else if s.pressureHigh then refuse .wrongState s
  else taken (s.mapConveyor (Conveyor.stand .stopped)).tellBeltBlocked

/-- CLEAR TOTALS (R173). -/
def clearTotals (_ : List Byte) (s : State) : State × Reply := taken (s.mapConveyor Conveyor.clearTotals)

/-- READ CONVEYOR (R175, R199). -/
def readConveyor (_ : List Byte) (s : State) : State × Reply :=
  let c := s.conveyor
  let runningOn : Bool := c.state = .runOn
  (s, doneWith (byteOf c.state.code ++ byteOf c.beltMode.code ++ beBytes 2 c.fixedSpeed ++ beBytes 2 c.beltSpeed ++
    beBytes 2 (c.neededSpeed.getD 0) ++ beBytes 2 (if runningOn then c.runOnSpeed.getD 0 else 0) ++
    beBytes 2 (if runningOn then c.runOnCount else 0) ++ beBytes 3 (min c.lastInflow 16777215) ++
    flagBytes c.inCut ++ beBytes 3 c.fill ++ flagBytes c.fillLatch ++ byteOf c.blockCount ++
    beBytes 4 c.truckCounter ++ beBytes 2 c.truckTarget ++ beBytes 5 c.milled ++ beBytes 5 c.delivered ++
    beBytes 5 c.spill))

/-! ### The belt output (R174) -/

/-- Cycles the BELT output is high in each PWM period; none while a reset is held. (It follows the state at
once: DESIGN CHOICE, log entry 14.) -/
def State.beltHigh (s : State) : Nat := if s.heldReset.isSome then 0 else s.conveyor.beltSpeed * 12 / 5

/-! ### The commands -/

/-- CONVEYOR START, code 0x60. -/
def execConveyorStart (r : Request) (s : State) : Answer := .next (serve 0x60 0 .console conveyorStart r s)

/-- CONVEYOR STOP, code 0x61. -/
def execConveyorStop (r : Request) (s : State) : Answer := .next (serve 0x61 0 .console conveyorStop r s)

/-- SET BELT MODE, code 0x62. -/
def execSetBeltMode (r : Request) (s : State) : Answer := .next (serve 0x62 3 .console setBeltMode r s)

/-- TRUCK AWAY, code 0x63. -/
def execTruckAway (r : Request) (s : State) : Answer := .next (serve 0x63 0 .console truckAway r s)

/-- TRUCK READY, code 0x64. -/
def execTruckReady (r : Request) (s : State) : Answer := .next (serve 0x64 0 .console truckReady r s)

/-- SET TRUCK TARGET, code 0x65. -/
def execSetTruckTarget (r : Request) (s : State) : Answer := .next (serve 0x65 4 .console setTruckTarget r s)

/-- CLEAR BLOCK, code 0x66. -/
def execClearBlock (r : Request) (s : State) : Answer := .next (serve 0x66 0 .console clearBlock r s)

/-- CLEAR TOTALS, code 0x67. -/
def execClearTotals (r : Request) (s : State) : Answer := .next (serve 0x67 0 .console clearTotals r s)

/-- READ CONVEYOR, code 0x68. -/
def execReadConveyor (r : Request) (s : State) : Answer := .next (serve 0x68 0 .all readConveyor r s)

/-- The 100 ms conveyor interval expires (R156). -/
def execConveyorIntervalExpiry (s : State) : Answer :=
  .next (s.whileRunning { s.conveyorInterval with timers.conveyor := Config.conveyorMs })

/-- The conveyor interval at which the run-on count reaches 0 (R159): the count has no timer of its own,
so the command stands for that interval, and where none is due it cannot occur (log entry 4). -/
def execRunOnExpiry (s : State) : Answer :=
  .next (s.whileRunning (if s.runOnDue then { s.conveyorInterval with timers.conveyor := Config.conveyorMs } else s))

end Sys2Proof.Machine
end

