-- ==== Sys2Proof/Machine/Channels.lean ====
section
/-! DEFINITION. The Channel Monitor (Chapter 4): readings and health, channel configuration, roles and
zero references. -/
namespace Sys2Proof.Machine

/-! ### Configuring channels (R81 to R83) -/

/-- The role a channel holds is in use (R80). -/
def State.channelInUse (n : Fin 8) (s : State) : Bool :=
  match s.roleHeld n with
  | some r => s.roleInUse r
  | none => false

/-- Another configured channel holds an address (R81 test 4). -/
def State.addressTaken (n : Fin 8) (address : Nat) (s : State) : Bool :=
  (List.finRange 8).any (fun k => k ≠ n &&
    (match (s.channel k).config with | some g => g.address = address | none => false))

/-- The zero reference a channel keeps over a configuration (R81). -/
def keptZero (old : Channel) (kind : Kind) : Option Int :=
  match old.config with
  | some g => if g.kind = kind && kind.isGrade then old.zero else none
  | none => none

/-- The record of a channel as CONFIGURE CHANNEL leaves it (R81). -/
def configuredChannel (old : Channel) (g : ChannelConfig) : Channel :=
  ⟨some g, keptZero old g.kind, .absent, none, none, false, none⟩

/-- The configuration a CONFIGURE CHANNEL payload carries, checked as test 1 of R81 gives. -/
def configOf (p : List Byte) : Option (Fin 8 × ChannelConfig) :=
  let address := fieldAt p 1 1
  let timeout := fieldAt p 4 1
  match channelOf (fieldAt p 0 1), kindOf (fieldAt p 2 1) (fieldAt p 3 1) with
  | some n, some kind =>
    if 1 ≤ address && address ≤ 63 && 1 ≤ timeout && timeout ≤ 40 then some (n, ⟨address, kind, timeout⟩) else none
  | _, _ => none

/-- A role the channel holds does not admit a kind (R81 test 3). -/
def State.kindUnfit (n : Fin 8) (kind : Kind) (s : State) : Bool :=
  match s.roleHeld n with
  | some r => !r.admits kind
  | none => false

/-- CONFIGURE CHANNEL (R81). -/
def configureChannel (p : List Byte) (s : State) : State × Reply :=
  match configOf p with
  | none => refuse .outOfRange s
  | some (n, g) =>
    if s.channelInUse n then refuse .wrongState s
    else if s.kindUnfit n g.kind then refuse .outOfRange s
    else if s.addressTaken n g.address then refuse .duplicateAddress s
    else
      let old := s.channel n
      taken (((s.setChannel n (configuredChannel old g)).handOver n old).tellSensorLost)

/-- The roles without the one a channel holds (R82). -/
def State.dropRole (n : Fin 8) (s : State) : State :=
  match s.roleHeld n with
  | some r => s.setRole r none
  | none => s

/-- CLEAR CHANNEL (R82). -/
def clearChannel (p : List Byte) (s : State) : State × Reply :=
  match channelOf (fieldAt p 0 1) with
  | none => refuse .outOfRange s
  | some n =>
    if s.channelInUse n then refuse .wrongState s
    else if (s.channel n).config.isNone then taken s
    else taken (((s.dropRole n).setChannel n emptyChannel).tellSensorLost)

/-- The code of the role a channel holds, 0 for none (R199). -/
def roleCode : Option Role → Nat
  | some r => r.code
  | none => 0

/-- The depth READ CHANNEL returns: that of a channel that holds a grade role (R83). -/
def State.reportedDepth (n : Fin 8) (s : State) : Option Int :=
  match s.roleHeld n with
  | some .leftGrade => (s.channel n).depth
  | some .rightGrade => (s.channel n).depth
  | _ => none

/-- The twenty-one bytes of READ CHANNEL (R83, R199). -/
def State.channelBytes (n : Fin 8) (s : State) : List Byte :=
  let c := s.channel n
  let g := c.config
  flagBytes g.isSome ++ byteOf ((g.map ChannelConfig.address).getD 0) ++
    byteOf ((g.map (fun g => g.kind.code)).getD 0) ++ byteOf ((g.map ChannelConfig.timeout).getD 0) ++
    byteOf (((g.bind (fun g => g.kind.polarity)).map Polarity.code).getD 0) ++ presentBytes 4 c.zero ++
    byteOf c.health.code ++ presentBytes 2 c.value ++ presentBytes 1 (c.status.map (fun b => (b.toNat : Int))) ++
    flagBytes c.engaged ++ byteOf (roleCode (s.roleHeld n)) ++ presentBytes 2 (s.reportedDepth n)

/-- READ CHANNEL (R83). -/
def readChannel (p : List Byte) (s : State) : State × Reply :=
  match channelOf (fieldAt p 0 1) with
  | none => refuse .outOfRange s
  | some n => (s, doneWith (s.channelBytes n))

/-! ### Roles (R85 to R89) -/

/-- Test 2 of R85: the channel carried may not take the role. -/
def State.unfitFor (r : Role) (v : Option (Fin 8)) (s : State) : Bool :=
  match v with
  | none => false
  | some n =>
    match (s.channel n).config with
    | none => true
    | some g => !r.admits g.kind || (match s.roleHeld n with | some q => q ≠ r | none => false)

/-- Test 4 of R85: a role that may not be moved while it is in use. -/
def State.roleFixed (r : Role) (s : State) : Bool :=
  match r with
  | .leftGrade => s.left.state = .referencing
  | .rightGrade => s.right.state = .referencing
  | .drumLoad => s.roleInUse .drumLoad
  | _ => false

/-- The new channel of a bumpless transfer is rebased (R87): it reports the old channel's depth. -/
def State.rebase (x : Side) (n : Fin 8) (s : State) : State :=
  let c := s.channel n
  s.setChannel n { c with zero := some (c.value.getD 0 + (s.measuredDepth x).getD 0 * c.sign) }

/-- A grade role is moved in AUTO (R87). -/
def State.transferGrade (x : Side) (n : Fin 8) (s : State) : State :=
  (((s.rebase x n).setRole (gradeRole x) (some n)).restartSettle x).tellSensorLost

/-- CROSS_SLOPE is moved while the side in SLOPE mode is in AUTO (R88). -/
def State.transferSlope (n : Fin 8) (s : State) : State :=
  let s₁ := s.setRole .crossSlope (some n)
  let s₂ := if s.left.mode = .slope && s.left.state = .auto then s₁.restartSettle .left else s₁
  let s₃ := if s.right.mode = .slope && s.right.state = .auto then s₂.restartSettle .right else s₂
  s₃.tellSensorLost

/-- A role in use is moved to a LIVE channel (R87, R88). -/
def State.transfer (r : Role) (n : Fin 8) (s : State) : State :=
  match r with
  | .leftGrade => s.transferGrade .left n
  | .rightGrade => s.transferGrade .right n
  | .crossSlope => s.transferSlope n
  | _ => s

/-- ASSIGN ROLE (R85). -/
def assignRole (p : List Byte) (s : State) : State × Reply :=
  match roleOf (fieldAt p 0 1), channelOrNoneOf (fieldAt p 1 1) with
  | some r, some v =>
    if s.unfitFor r v then refuse .outOfRange s
    else if s.monitor.roles.get r = v then taken s
    else if s.roleInUse r then
      if s.roleFixed r then refuse .wrongState s
      else match v with
        | none => refuse .wrongState s
        | some n => if (s.channel n).health = .live then taken (s.transfer r n) else refuse .notLive s
    else taken (s.setRole r v).tellSensorLost
  | _, _ => refuse .outOfRange s

/-- The three bytes READ ROLES returns of one role (R89, R199). -/
def State.roleBytes (r : Role) (s : State) : List Byte :=
  match s.roleChannel r with
  | none => byteOf 255 ++ byteOf 0 ++ byteOf 0
  | some c =>
    byteOf (channelCode (s.monitor.roles.get r)) ++ byteOf c.health.code ++
      flagBytes ((r = .leftGrade || r = .rightGrade) && c.zero.isSome)

/-- READ ROLES (R89). -/
def readRoles (_ : List Byte) (s : State) : State × Reply :=
  (s, doneWith (allRoles.map (fun r => s.roleBytes r)).flatten)

/-! ### Zero references (R91) -/

/-- SET ZERO (R91); a side byte that names no side is refused as R189 gives (DEDUCED, log entry 10). -/
def setZero (p : List Byte) (s : State) : State × Reply :=
  let depth := signedAt p 1 2
  match sideOf (fieldAt p 0 1) with
  | none => refuse .outOfRange s
  | some x =>
    if (s.side x).state = .auto || (s.side x).state = .referencing then refuse .wrongState s
    else if depth < -500 || 5000 < depth then refuse .outOfRange s
    else match s.monitor.roles.get (gradeRole x) with
      | none => refuse .outOfRange s
      | some n =>
        let c := s.channel n
        if c.health = .live then
          taken (s.setChannel n { c with zero := some (c.value.getD 0 + depth * c.sign) })
        else refuse .notLive s

/-! ### Readings and freshness (R75, R76, R195) -/

/-- A reading as the Sensor Link Interface delivers it (R195). -/
structure Reading where
  address : Nat
  value : Int
  status : Byte
  deriving DecidableEq, Repr

/-- The reading a frame of the sensor link carries, if the part takes the frame (R195). -/
def readingOf (f : CanFrame) : Option Reading :=
  if f.extended || f.remote || f.fd || f.data.length < 3 then none
  else if 0x501 ≤ f.ident && f.ident ≤ 0x53F then
    some ⟨f.ident - 0x500, signedAt f.data 0 2, f.data.getD 2 0⟩
  else none

/-- The channel an address matches (R75). -/
def State.channelAt (address : Nat) (s : State) : Option (Fin 8) :=
  (List.finRange 8).find? (fun n =>
    match (s.channel n).config with | some g => g.address = address | none => false)

/-- A reading of a kind is accepted (R75). -/
def accepts (kind : Kind) (r : Reading) : Bool :=
  (r.status = 0 || (r.status = 1 && kind = .load)) && kind.inRange r.value

/-- The record of a channel after a reading (R75). -/
def Channel.afterReading (g : ChannelConfig) (r : Reading) (c : Channel) : Channel :=
  let c₁ : Channel := { c with status := some r.status, timer := some (g.timeout * Config.freshnessUnitMs) }
  if accepts g.kind r then
    { c₁ with
      value := some r.value
      health := .live
      engaged := if g.kind = .load then r.status = 0 else c.engaged }
  else { c₁ with health := .rejected }

/-- The Channel Monitor takes a reading (R75, R77). -/
def State.takeReading (r : Reading) (s : State) : State :=
  match s.channelAt r.address with
  | none => s
  | some n =>
    match (s.channel n).config with
    | none => s
    | some g => (s.setChannel n ((s.channel n).afterReading g r)).handOver n (s.channel n)

/-- A running freshness timer expires (R76, R77); with a stopped timer the event cannot occur. -/
def State.expireFreshness (n : Fin 8) (s : State) : State :=
  let c := s.channel n
  if c.timer.isSome then (s.setChannel n { c with health := .stale, timer := none }).handOver n c else s

/-! ### The commands -/

/-- CONFIGURE CHANNEL, code 0x30. -/
def execConfigureChannel (r : Request) (s : State) : Answer := .next (serve 0x30 5 .console configureChannel r s)

/-- CLEAR CHANNEL, code 0x31. -/
def execClearChannel (r : Request) (s : State) : Answer := .next (serve 0x31 1 .console clearChannel r s)

/-- READ CHANNEL, code 0x32. -/
def execReadChannel (r : Request) (s : State) : Answer := .next (serve 0x32 1 .all readChannel r s)

/-- ASSIGN ROLE, code 0x33. -/
def execAssignRole (r : Request) (s : State) : Answer := .next (serve 0x33 2 .console assignRole r s)

/-- READ ROLES, code 0x34. -/
def execReadRoles (r : Request) (s : State) : Answer := .next (serve 0x34 0 .all readRoles r s)

/-- SET ZERO, code 0x35. -/
def execSetZero (r : Request) (s : State) : Answer := .next (serve 0x35 3 .consolePanel setZero r s)

/-- A frame reaches the sensor link (R195, R75). -/
def execReadingMessage (f : CanFrame) (s : State) : Answer :=
  .next (s.whileRunning (match readingOf f with | some r => s.takeReading r | none => s))

/-- A channel's freshness timer expires (R76). -/
def execFreshnessExpiry (n : Fin 8) (s : State) : Answer := .next (s.whileRunning (s.expireFreshness n))

end Sys2Proof.Machine
end

