-- ==== Sys2Proof/Machine/Link.lean ====
section
/-! DEFINITION. The Plan Link Interface and the ceiling message's leaving (Chapter 10, sections 10.1 to
10.4): arrivals, malformed frames, responses, the status broadcast, console supervision, PRESENCE and
RESTART. -/
namespace Sys2Proof.Machine

/-! ### Arrivals (R186, R187, R193) -/

/-- The requester of a request identifier (R186). -/
def requesterOf : Nat → Option Requester
  | 0x301 => some .console
  | 0x302 => some .planTerminal
  | 0x303 => some .leftPanel
  | 0x304 => some .rightPanel
  | _ => none

/-- The frame an arrival joins the queue as; `none` for a frame the part does not take (R186). -/
def arrivalOf (f : CanFrame) : Option Frame :=
  if f.extended || f.remote then none else (requesterOf f.ident).map (fun q => ⟨q, f.data⟩)

/-- A frame joins the tail of the receive queue, or finds it full and is discarded (R187). -/
def State.enqueue (f : Frame) (s : State) : State :=
  if s.link.queue.length < Config.queueDepth then { s with link.queue := s.link.queue ++ [f] }
  else s.raiseNotice .requestOverrun

/-- An arrival (R187, R193). -/
def State.arrive (f : Frame) (s : State) : State := (s.heard f.requester).enqueue f

/-! ### Malformed frames (R188) -/

/-- The request codes of section 10.7. -/
def requestCodes : List Nat :=
  [0x10, 0x11, 0x12, 0x13, 0x14, 0x15, 0x16, 0x17, 0x18, 0x19, 0x1A, 0x1B, 0x1C, 0x1F, 0x20, 0x21, 0x22, 0x23,
   0x24, 0x30, 0x31, 0x32, 0x33, 0x34, 0x35, 0x40, 0x41, 0x42, 0x43, 0x44, 0x45, 0x46, 0x50, 0x51, 0x58, 0x59,
   0x60, 0x61, 0x62, 0x63, 0x64, 0x65, 0x66, 0x67, 0x68, 0x70, 0x71, 0x72, 0x7E, 0x7F]

/-- Test 1 of R188: fewer than three data bytes, or a code that is no request's. -/
def malformedData (data : List Byte) : Bool :=
  data.length < 3 || !requestCodes.contains (data.getD 0 0).toNat

/-- A malformed frame is taken and answered BAD_REQUEST (R188), echoing its code and tag, 0 where it has
none. A frame that is not malformed is no such frame, and nothing happens (log entry 3). -/
def State.takeMalformed (f : Frame) (s : State) : State :=
  if malformedData f.data then
    match s.takeFrame f with
    | none => s
    | some t => t.respond f.requester (f.data.getD 0 0) (f.data.getD 1 0) (plain .badRequest)
  else s

/-! ### What the transmitters send (R186, R190, R192, R196) -/

/-- The response identifier of a requester (R186). -/
def responseIdent : Requester → Nat
  | .console => 0x381
  | .planTerminal => 0x382
  | .leftPanel => 0x383
  | .rightPanel => 0x384

/-- The frame of the response slot: on the requester's response identifier, in the flexible data-rate format
(R186, R190). -/
def State.responseFrame (s : State) : Option SentFrame :=
  s.link.response.map (fun m => ⟨true, responseIdent m.requester, m.data⟩)

/-- The frame of the broadcast slot, on identifier 0x380 (R192); that it too is in the flexible data-rate
format is DEDUCED from R186 and its 42 bytes (log entry 18). -/
def State.broadcastFrame (s : State) : Option SentFrame :=
  s.link.broadcast.map (fun d => ⟨true, Config.broadcastIdent, d⟩)

/-- The frame the plan link's transmitter sends: the broadcast first when both slots hold a frame (R190). -/
def State.planLinkSends (s : State) : Option SentFrame :=
  match s.broadcastFrame with
  | some f => some f
  | none => s.responseFrame

/-- The frame the sensor link's transmitter sends: the pending ceiling message, on identifier 0x4F0, in the
classical format (R195, R196). -/
def State.sensorLinkSends (s : State) : Option SentFrame :=
  s.sensorLink.ceilingMessage.map (fun d => ⟨false, Config.ceilingIdent, d⟩)

/-! ### Responses leave (R190, R191) -/

/-- A response leaves or is discarded: the second segment enters the slot, or the slot is empty
(R190, R191). -/
def State.responseGone (s : State) : State :=
  match s.link.response with
  | none => s
  | some slot =>
    match slot.second with
    | some data => { s with link.response := some ⟨slot.requester, data, Config.responseMs, none⟩ }
    | none => { s with link.response := none }

/-- The response is sent (R190). While a broadcast stands in its slot the broadcast is what the transmitter
sends, so no response leaves then: such an event cannot occur, and nothing happens (log entries 3 and 15). -/
def State.sendResponse (s : State) : State := if s.link.broadcast.isSome then s else s.responseGone

/-! ### The status broadcast (R192) -/

/-- The nine bytes of one side in the status broadcast (R192, R199). -/
def State.sideStatus (x : Side) (s : State) : List Byte :=
  let d := s.side x
  let c := d.context
  byteOf d.state.code ++ byteOf c.source.code ++ byteOf c.basis.code ++
    intBytes 2 (match c.basis with | .depth => c.depthTarget | .slope => c.slopeTarget) ++
    intBytes 2 ((s.measuredDepth x).getD (-32768)) ++ intBytes 2 d.demand

/-- The forty-two bytes of the status broadcast (R192, R199); 42 is no CAN FD length, and the fill bytes that
follow them on the bus have no place in the model (DESIGN CHOICE, log entry 18). -/
def State.statusBytes (s : State) : List Byte :=
  beBytes 4 s.station.station ++ flagBytes s.station.valid ++ byteOf s.station.sense.code ++
    byteOf (s.plan.governing.getD 0) ++ s.sideStatus .left ++ s.sideStatus .right ++
    beBytes 2 s.governor.ceiling ++ byteOf s.governor.reason.code ++ byteOf s.conveyor.state.code ++
    beBytes 2 s.conveyor.beltSpeed ++ beBytes 3 s.conveyor.fill ++ beBytes 4 s.conveyor.truckCounter ++
    noticeSetBytes (s.notices.records.toList.map NoticeRecord.latch) ++ [s.link.broadcastCount]

/-- The broadcast timer expires (R192): a broadcast is formed and replaces one still in the slot. -/
def State.formBroadcast (s : State) : State :=
  { s with
    link.broadcast := some s.statusBytes
    link.broadcastCount := s.link.broadcastCount + 1
    link.broadcastTimer := Config.broadcastMs }

/-! ### Console supervision (R193) -/

/-- A running supervision timer expires (R193); one that has run out cannot. -/
def State.expireSupervision (s : State) : State :=
  if s.link.supervision.isNone then s
  else if s.anyAuto then ({ s with link.supervision := none, link.linkLoss := true } : State).tellLinkLost
  else { s with link.supervision := some Config.supervisionMs }

/-! ### PRESENCE and RESTART (R194) -/

/-- PRESENCE (R194). -/
def presence (_ : List Byte) (s : State) : State × Reply := taken s

/-- RESTART (R194): the warm reset waits until the response has left or been discarded. -/
def restart (_ : List Byte) (s : State) : State × Reply := taken { s with link.restartTaken := true }

/-! ### The commands -/

/-- PRESENCE, code 0x7E. -/
def execPresence (r : Request) (s : State) : Answer := .next (serve 0x7E 0 .consoleTerminal presence r s)

/-- RESTART, code 0x7F. -/
def execRestart (r : Request) (s : State) : Answer := .next (serve 0x7F 0 .console restart r s)

/-- A frame reaches the plan link (R186, R187). -/
def execRequestArrival (f : CanFrame) (s : State) : Answer :=
  .next (s.whileRunning (match arrivalOf f with | some g => s.arrive g | none => s))

/-- A frame too short or with an unknown code is taken (R188). -/
def execMalformedFrameTaken (f : Frame) (s : State) : Answer := .next (s.takeMalformed f)

/-- The response in the slot is acknowledged on the bus (R190). -/
def execResponseSent (s : State) : Answer := .next (s.whileRunning s.sendResponse)

/-- The response in the slot is discarded after 100 ms (R190). -/
def execResponseDiscard (s : State) : Answer := .next (s.whileRunning s.responseGone)

/-- The broadcast timer expires (R192). -/
def execStatusBroadcast (s : State) : Answer := .next (s.whileRunning s.formBroadcast)

/-- The broadcast in the slot is acknowledged on the bus (R190). -/
def execBroadcastSent (s : State) : Answer := .next (s.whileRunning { s with link.broadcast := none })

/-- The supervision timer expires (R193). -/
def execSupervisionExpiry (s : State) : Answer := .next (s.whileRunning s.expireSupervision)

/-- The pending ceiling message is acknowledged on the sensor link (R196). -/
def execCeilingMessageSent (s : State) : Answer := .next (s.whileRunning { s with sensorLink.ceilingMessage := none })

end Sys2Proof.Machine
end

