-- ==== Sys2Proof/Machine/Zones.lean ====
section
/-! DEFINITION. The requests on zones and CLEAR PLAN (Chapter 1, sections 1.1 to 1.3 and 1.6). -/
namespace Sys2Proof.Machine

/-! ### The zone table (R3) -/

/-- Two intervals meet (R3). -/
def ZoneFields.meets (a b : ZoneFields) : Bool := a.start < b.stop && b.start < a.stop

/-- Places a record in start order (R3). -/
def insertZoneSorted (z : Zone) : List Zone → List Zone
  | [] => [z]
  | y :: rest => if z.fields.start < y.fields.start then z :: y :: rest else y :: insertZoneSorted z rest

/-- The table without one record. -/
def dropZone (n : Nat) (zones : List Zone) : List Zone := zones.filter (fun z => z.number ≠ n)

/-- The lowest number in 1..max that is not held, if any (R3, R21). -/
def lowestFree (max : Nat) (held : List Nat) : Option Nat := (List.range' 1 max).find? (fun n => !held.contains n)

/-- The fields are clipped by the latched drum class (R5). -/
def State.isClipped (z : ZoneFields) (s : State) : Bool := s.maxDepth < z.leftDepth || s.maxDepth < z.rightDepth

/-- Stores a record in its place and raises DEPTH_CLIPPED when it is clipped (R5, R8, R9). -/
def State.storeZone (z : Zone) (zones : List Zone) (s : State) : State :=
  let t : State := { s with plan.zones := insertZoneSorted z zones }
  if z.clipped then t.raiseNotice .depthClipped else t

/-- The position of a zone, evaluated now (R6). -/
def State.zonePosition (z : Zone) (s : State) : ZonePosition :=
  let c := s.station
  if !c.valid then .unknown
  else if s.plan.governing = some z.number then .governing
  else if z.fields.contains c.station then .pending
  else if c.station < z.fields.start then (if c.sense = .ascending then .pending else .passed)
  else (if c.sense = .ascending then .passed else .pending)

/-! ### The requests as the Plan Store takes them -/

/-- INSERT ZONE (R8), checked by tests 3 to 5 of R7. -/
def insertZone (p : List Byte) (s : State) : State × Reply :=
  match checkedZone p with
  | none => refuse .outOfRange s
  | some f =>
    if s.plan.zones.any (fun z => z.fields.meets f) then refuse .overlap s
    else match lowestFree Config.zoneNumbers (s.plan.zones.map Zone.number) with
      | none => refuse .tableFull s
      | some n =>
        ((s.storeZone ⟨n, f, false, s.isClipped f⟩ s.plan.zones).reevaluate none, doneWith (byteOf n))

/-- Tests 1 and 2 of R7 for a request that names a zone. -/
def withZone (n : Nat) (s : State) (act : Zone → State × Reply) : State × Reply :=
  if n < 1 || Config.zoneNumbers < n then refuse .outOfRange s
  else match s.findZone n with
    | none => refuse .noRecord s
    | some z => act z

/-- AMEND ZONE (R9). -/
def amendZone (p : List Byte) (s : State) : State × Reply :=
  withZone (fieldAt p 0 1) s fun z =>
    match checkedZone (p.drop 1) with
    | none => refuse .outOfRange s
    | some f =>
      if (dropZone z.number s.plan.zones).any (fun y => y.fields.meets f) then refuse .overlap s
      else taken ((s.storeZone ⟨z.number, f, z.suspended, s.isClipped f⟩
        (dropZone z.number s.plan.zones)).reevaluate (some z.number))

/-- Writes the suspended flag of one zone. -/
def State.markSuspended (n : Nat) (v : Bool) (s : State) : State :=
  { s with plan.zones := s.plan.zones.map (fun z => if z.number = n then { z with suspended := v } else z) }

/-- SUSPEND ZONE (R10). -/
def suspendZone (p : List Byte) (s : State) : State × Reply :=
  withZone (fieldAt p 0 1) s fun z =>
    if z.suspended then taken s else taken ((s.markSuspended z.number true).reevaluate none)

/-- REINSTATE ZONE (R11). -/
def reinstateZone (p : List Byte) (s : State) : State × Reply :=
  withZone (fieldAt p 0 1) s fun z =>
    if z.suspended then taken ((s.markSuspended z.number false).reevaluate none) else taken s

/-- RETIRE ZONE (R12). -/
def retireZone (p : List Byte) (s : State) : State × Reply :=
  withZone (fieldAt p 0 1) s fun z =>
    taken (({ s with plan.zones := dropZone z.number s.plan.zones } : State).reevaluate none)

/-- READ ZONE (R13): number, record, flags and position (R199). -/
def readZone (p : List Byte) (s : State) : State × Reply :=
  withZone (fieldAt p 0 1) s fun z =>
    (s, doneWith (byteOf z.number ++ zoneBytes z.fields ++ byteOf (zoneFlags z) ++ byteOf (s.zonePosition z).code))

/-- FIND ZONE (R14). -/
def findZone (p : List Byte) (s : State) : State × Reply :=
  let st := fieldAt p 0 4
  if Config.stationMax < st then refuse .outOfRange s
  else match s.plan.zones.find? (fun z => z.fields.contains st) with
    | none => refuse .noRecord s
    | some z => (s, doneWith (byteOf z.number))

/-- The one or two payloads of a LIST response (R191): segment number, entries in the list, remaining
count, entries. -/
def listReply (entries : List (List Byte)) : Reply :=
  let shown := entries.take Config.listEntries
  let n := shown.length
  let head (segment : Nat) := byteOf segment ++ byteOf n ++ byteOf (entries.length - n)
  { status := .done
    payload := head 1 ++ (shown.take Config.segmentEntries).flatten
    second := if Config.segmentEntries < n then some (head 2 ++ (shown.drop Config.segmentEntries).flatten) else none }

/-- A zone entry of LIST ZONES (R191). -/
def zoneEntry (z : Zone) : List Byte := byteOf z.number ++ beBytes 4 z.fields.start ++ beBytes 4 z.fields.stop

/-- LIST ZONES (R15). -/
def listZones (p : List Byte) (s : State) : State × Reply :=
  let st := fieldAt p 0 4
  if Config.stationMax < st then refuse .outOfRange s
  else (s, listReply ((s.plan.zones.dropWhile (fun z => z.fields.stop ≤ st)).map zoneEntry))

/-- CLEAR PLAN (R29). -/
def clearPlan (_ : List Byte) (s : State) : State × Reply :=
  taken (({ s with plan.zones := [], plan.marks := [] } : State).reevaluate none)

/-! ### The commands -/

/-- INSERT ZONE, code 0x10. -/
def execInsertZone (r : Request) (s : State) : Answer := .next (serve 0x10 20 .consoleTerminal insertZone r s)

/-- AMEND ZONE, code 0x11. -/
def execAmendZone (r : Request) (s : State) : Answer := .next (serve 0x11 21 .consoleTerminal amendZone r s)

/-- SUSPEND ZONE, code 0x12. -/
def execSuspendZone (r : Request) (s : State) : Answer := .next (serve 0x12 1 .consoleTerminal suspendZone r s)

/-- REINSTATE ZONE, code 0x13. -/
def execReinstateZone (r : Request) (s : State) : Answer := .next (serve 0x13 1 .consoleTerminal reinstateZone r s)

/-- RETIRE ZONE, code 0x14. -/
def execRetireZone (r : Request) (s : State) : Answer := .next (serve 0x14 1 .consoleTerminal retireZone r s)

/-- READ ZONE, code 0x15. -/
def execReadZone (r : Request) (s : State) : Answer := .next (serve 0x15 1 .all readZone r s)

/-- FIND ZONE, code 0x16. -/
def execFindZone (r : Request) (s : State) : Answer := .next (serve 0x16 4 .all findZone r s)

/-- LIST ZONES, code 0x17. -/
def execListZones (r : Request) (s : State) : Answer := .next (serve 0x17 4 .all listZones r s)

/-- CLEAR PLAN, code 0x1F. -/
def execClearPlan (r : Request) (s : State) : Answer := .next (serve 0x1F 0 .console clearPlan r s)

end Sys2Proof.Machine
end

