-- ==== Sys2Proof/Machine/Marks.lean ====
section
/-! DEFINITION. The requests on marks (Chapter 1, sections 1.4 and 1.5). -/
namespace Sys2Proof.Machine

/-- Table order of marks: by start, then by number (R21). -/
def Mark.before (a b : Mark) : Bool :=
  a.fields.start < b.fields.start || (a.fields.start = b.fields.start && a.number < b.number)

/-- Places a mark in the table's order (R21). -/
def insertMarkSorted (m : Mark) : List Mark → List Mark
  | [] => [m]
  | y :: rest => if m.before y then m :: y :: rest else y :: insertMarkSorted m rest

/-- The table without one mark, its MARK_AHEAD memory with it (R26). -/
def dropMark (n : Nat) (marks : List Mark) : List Mark := marks.filter (fun m => m.number ≠ n)

/-- The record a mark number names. -/
def State.findMark (n : Nat) (s : State) : Option Mark := s.plan.marks.find? (fun m => m.number = n)

/-- The last station a mark covers (R21). -/
def MarkFields.last (m : MarkFields) : Nat := m.start + m.length - 1

/-- INSERT MARK (R24), checked by tests 3 and 5 of R7. -/
def insertMark (p : List Byte) (s : State) : State × Reply :=
  match checkedMark s.maxDepth p with
  | none => refuse .outOfRange s
  | some f =>
    match lowestFree Config.markNumbers (s.plan.marks.map Mark.number) with
    | none => refuse .tableFull s
    | some n =>
      ({ s with plan.marks := insertMarkSorted (freshMark n f) s.plan.marks }, doneWith (byteOf n))

/-- Tests 1 and 2 of R7 for a request that names a mark. -/
def withMark (n : Nat) (s : State) (act : Mark → State × Reply) : State × Reply :=
  if n < 1 || Config.markNumbers < n then refuse .outOfRange s
  else match s.findMark n with
    | none => refuse .noRecord s
    | some m => act m

/-- AMEND MARK (R25). -/
def amendMark (p : List Byte) (s : State) : State × Reply :=
  withMark (fieldAt p 0 1) s fun m =>
    match checkedMark s.maxDepth (p.drop 1) with
    | none => refuse .outOfRange s
    | some f =>
      taken { s with plan.marks := insertMarkSorted (freshMark m.number f) (dropMark m.number s.plan.marks) }

/-- RETIRE MARK (R26). -/
def retireMark (p : List Byte) (s : State) : State × Reply :=
  withMark (fieldAt p 0 1) s fun m => taken { s with plan.marks := dropMark m.number s.plan.marks }

/-- READ MARK (R27): number, record and the two positions (R199). -/
def readMark (p : List Byte) (s : State) : State × Reply :=
  withMark (fieldAt p 0 1) s fun m =>
    (s, doneWith (byteOf m.number ++ markBytes m.fields ++ byteOf m.posLeft.code ++ byteOf m.posRight.code))

/-- A mark entry of LIST MARKS (R191). -/
def markEntry (m : Mark) : List Byte :=
  byteOf m.number ++ beBytes 4 m.fields.start ++ beBytes 2 m.fields.length ++ byteOf m.fields.sides.code

/-- LIST MARKS (R28). -/
def listMarks (p : List Byte) (s : State) : State × Reply :=
  let st := fieldAt p 0 4
  if Config.stationMax < st then refuse .outOfRange s
  else (s, listReply ((s.plan.marks.filter (fun m => st ≤ m.fields.last)).map markEntry))

/-! ### The commands -/

/-- INSERT MARK, code 0x18. -/
def execInsertMark (r : Request) (s : State) : Answer := .next (serve 0x18 11 .consoleTerminal insertMark r s)

/-- AMEND MARK, code 0x19. -/
def execAmendMark (r : Request) (s : State) : Answer := .next (serve 0x19 12 .consoleTerminal amendMark r s)

/-- RETIRE MARK, code 0x1A. -/
def execRetireMark (r : Request) (s : State) : Answer := .next (serve 0x1A 1 .consoleTerminal retireMark r s)

/-- READ MARK, code 0x1B. -/
def execReadMark (r : Request) (s : State) : Answer := .next (serve 0x1B 1 .all readMark r s)

/-- LIST MARKS, code 0x1C. -/
def execListMarks (r : Request) (s : State) : Answer := .next (serve 0x1C 4 .all listMarks r s)

end Sys2Proof.Machine
end

