-- ==== Sys2Proof/Machine/Notices.lean ====
section
/-! DEFINITION. The requests on notices (Chapter 9, section 9.3). -/
namespace Sys2Proof.Machine

/-- The nineteen latches, notice 0 first. -/
def State.latches (s : State) : List Bool := s.notices.records.toList.map NoticeRecord.latch

/-- READ NOTICES (R181, R199). -/
def readNotices (_ : List Byte) (s : State) : State × Reply :=
  let rs := s.notices.records.toList
  (s, doneWith (noticeSetBytes s.latches ++ noticeSetBytes (rs.map NoticeRecord.masked) ++
    noticeSetBytes (rs.map NoticeRecord.cause) ++ rs.map NoticeRecord.count ++ flagBytes s.notices.alertLow))

/-- A record after an acknowledgement of the notices in `named` (R182): a named latch clears unless the
notice is a condition notice whose cause is present. -/
def acknowledged (named : Nat → Bool) (k : Nat) (r : NoticeRecord) : NoticeRecord :=
  if named k then { r with latch := isCondition k && r.cause } else r

/-- ACKNOWLEDGE NOTICES (R182): answered with the latches as they stand after it. -/
def acknowledgeNotices (p : List Byte) (s : State) : State × Reply :=
  match noticeSetOf p with
  | none => refuse .outOfRange s
  | some named =>
    let t := ({ s with notices.records := s.notices.records.mapFinIdx (fun k r _ => acknowledged named k r) } :
      State).updateAlert
    (t, doneWith (noticeSetBytes t.latches))

/-- SET NOTICE MASK (R183). -/
def setNoticeMask (p : List Byte) (s : State) : State × Reply :=
  match noticeSetOf p with
  | none => refuse .outOfRange s
  | some masks =>
    taken ({ s with notices.records :=
      s.notices.records.mapFinIdx (fun k r _ => { r with masked := masks k }) } : State).updateAlert

/-- READ NOTICES, code 0x70. -/
def execReadNotices (r : Request) (s : State) : Answer := .next (serve 0x70 0 .all readNotices r s)

/-- ACKNOWLEDGE NOTICES, code 0x71. -/
def execAcknowledgeNotices (r : Request) (s : State) : Answer :=
  .next (serve 0x71 3 .all acknowledgeNotices r s)

/-- SET NOTICE MASK, code 0x72. -/
def execSetNoticeMask (r : Request) (s : State) : Answer := .next (serve 0x72 3 .console setNoticeMask r s)

end Sys2Proof.Machine
end

