-- ==== Sys2Proof/Machine/Resets.lean ====
section
/-! DEFINITION. Resets (Chapter 10, section 10.5, and each chapter's values after a reset): the start of a
reset, the release of a cold and of a warm one, and the passing of time on an empty command queue. -/
namespace Sys2Proof.Machine

/-- A reset begins or goes on held (R198): the queue, the slots and the ceiling message are emptied,
ALERTn is released, and what RESTART arranged is superseded. -/
def State.hold (kind : ResetKind) (s : State) : State :=
  { s with
    heldReset := some kind
    link.queue := []
    link.response := none
    link.broadcast := none
    link.restartTaken := false
    sensorLink.ceilingMessage := none
    notices.alertLow := false }

/-- The kind of a reset when a source acts (R197): the supply makes it cold; RESETn gives a warm one, and
leaves a cold one that is already held cold. (How long it is held is told by the release commands: DESIGN
CHOICE, log entry 13.) -/
def resetKindAfter (src : ResetSource) (before : Option ResetKind) : ResetKind :=
  match src, before with
  | .supply, _ => .cold
  | .resetPin, some .cold => .cold
  | .resetPin, _ => .warm

/-- The drum class of the straps (R31): twice DCLASS1 plus DCLASS0. -/
def classOf : Bool → Bool → Fin 4
  | false, false => 0
  | false, true => 1
  | true, false => 2
  | true, true => 3

/-- The notices at a release (R185): everything cleared but the masks given, then the reset's own notice
latched and counted. -/
def releasedNotices (masks : Vector NoticeRecord 19) (own : Notice) (s : State) : State :=
  ({ s with notices := ⟨mapTable (fun r => clearedNotice r.masked) masks, false⟩ } : State).raiseNotice own

/-- The state a cold reset leaves (R197), with the levels of the straps and of the encoder inputs at the
release; the commands that wait are the model's own and are kept. -/
def coldState (dclass1 dclass0 encA encB : Bool) (s : State) : State :=
  (releasedNotices (Vector.replicate 19 (clearedNotice false)) .coldStart { s with
    plan := resetPlan
    station := resetStation (classOf dclass1 dclass0) encA encB
    monitor := resetMonitor
    left := resetSide
    right := resetSide
    banks := resetBanks
    governor := resetGovernor Config.capMax
    conveyor := resetConveyor
    link := resetLink
    sensorLink := ⟨none⟩
    timers := resetTimers
    heldReset := none }).tellAllCauses.updateAlert

/-- A mark after a warm reset (R30, R48). -/
def Mark.warm (m : Mark) : Mark := freshMark m.number m.fields

/-- A channel after a warm reset (R73). -/
def Channel.warm (c : Channel) : Channel :=
  { c with health := .absent, value := none, status := none, engaged := false, timer := none }

/-- A side after a warm reset (R96): mode and trim are kept. -/
def SideLoop.warm (d : SideLoop) : SideLoop := { resetSide with mode := d.mode, trim := d.trim }

/-- The conveyor after a warm reset, before its latch is re-evaluated (R155). -/
def Conveyor.warm (c : Conveyor) : Conveyor :=
  { resetConveyor with
    beltMode := c.beltMode
    fixedSpeed := c.fixedSpeed
    fill := c.fill
    fillLatch := c.fillLatch
    truckCounter := c.truckCounter
    truckTarget := c.truckTarget
    milled := c.milled
    delivered := c.delivered
    spill := c.spill }

/-- The blocks' own values after a warm reset (R30, R32, R37, R48, R73, R84, R96, R122, R123, R137, R155,
R166, R198), before the notices. -/
def State.warmBlocks (encA encB : Bool) (s : State) : State :=
  let c := s.conveyor.warm
  { s with
    plan := ⟨s.plan.zones, s.plan.marks.map Mark.warm, none⟩
    station := { s.station with
      fine := 0, valid := false, speed := 0, accum := 0, phaseA := encA, phaseB := encB }
    monitor.channels := mapTable Channel.warm s.monitor.channels
    left := s.left.warm
    right := s.right.warm
    governor := resetGovernor s.governor.cap
    conveyor := { c with fillLatch := latchAfter s.station.geometry c.fill c.fillLatch }
    link := resetLink
    sensorLink := ⟨none⟩
    timers := resetTimers
    heldReset := none }

/-- The state a warm reset leaves (R185, R197). -/
def warmState (encA encB : Bool) (s : State) : State :=
  (releasedNotices s.notices.records .warmRestart (s.warmBlocks encA encB)).tellAllCauses.updateAlert

/-! ### Time that passes while no command waits -/

/-- One millisecond less of a running time. -/
def lessOne (t : Option Nat) : Option Nat := t.map (· - 1)

/-- One millisecond off a side's jog lease (R103, R118). -/
def SideLoop.passMs (d : SideLoop) : SideLoop :=
  { d with lease := d.lease.map (fun l => { l with remaining := l.remaining - 1 }) }

/-- One millisecond off each free-running timer. -/
def IntervalTimers.passMs (t : IntervalTimers) : IntervalTimers :=
  ⟨t.leftSide - 1, t.rightSide - 1, t.governor - 1, t.loadWindow - 1, t.conveyor - 1, t.speedWindow - 1⟩

/-- One millisecond passes while no command waits (DESIGN CHOICE, log entry 5): each running time the
state holds in ms falls by one and stops at 0, where its expiry is due; no expiry is taken here. -/
def State.passMs (s : State) : State :=
  s.whileRunning { s with
    monitor.channels := mapTable (fun c => { c with timer := lessOne c.timer }) s.monitor.channels
    left := s.left.passMs
    right := s.right.passMs
    link.response := s.link.response.map (fun r => { r with remaining := r.remaining - 1 })
    link.broadcastTimer := s.link.broadcastTimer - 1
    link.supervision := lessOne s.link.supervision
    timers := s.timers.passMs }

/-! ### The commands -/

/-- The supply falls or RESETn goes low (R197, R198). -/
def execResetAssert (src : ResetSource) (s : State) : Answer := .next (s.hold (resetKindAfter src s.heldReset))

/-- The warm reset of a taken RESTART begins, once its response has left or been discarded (R194). -/
def execRestartResetStart (s : State) : Answer :=
  .next (s.whileRunning (if s.link.restartTaken && s.link.response.isNone then s.hold .warm else s))

/-- A cold reset is released (R197); it cannot be while none is held. -/
def execColdResetRelease (dclass1 dclass0 encA encB : Bool) (s : State) : Answer :=
  .next (if s.heldReset = some .cold then coldState dclass1 dclass0 encA encB s else s)

/-- A warm reset is released (R197); it cannot be while none is held. -/
def execWarmResetRelease (encA encB : Bool) (s : State) : Answer :=
  .next (if s.heldReset = some .warm then warmState encA encB s else s)

end Sys2Proof.Machine
end

