-- ==== Sys2Proof/Machine/Sides.lean ====
section
/-! DEFINITION. The Side Loops (Chapter 5) and the counting of the settle sequence (Chapter 6): the side
requests, the side interval, the jog lease and the lift outputs. -/
namespace Sys2Proof.Machine

/-! ### Requests -/

/-- The side a request names; a byte that names none is refused first (R98). -/
def withSide (p : List Byte) (s : State) (act : Side → State × Reply) : State × Reply :=
  match sideOf (fieldAt p 0 1) with
  | none => refuse .outOfRange s
  | some x => act x

/-- The channel of a role is assigned and LIVE. -/
def State.roleLive (r : Role) (s : State) : Bool :=
  match s.roleChannel r with
  | some c => c.health = .live
  | none => false

/-- The plan context of a side at its entry into AUTO (R54, R65). -/
def State.entryContext (x : Side) (s : State) : PlanContext :=
  let d := s.side x
  let depth := s.cutDepth x
  let c : PlanContext := { d.context with
    planDepth := depth
    override := none
    offer := none
    heldSlope := if d.mode = .slope then s.slopeCapture x else d.context.heldSlope }
  if s.station.valid && s.governingZone.isSome then
    { c with source := .plan, entryDepth := depth, entryStation := s.station.station }
  else { c with source := .hold, holdDepth := depth }

/-- A side enters AUTO (R100). -/
def State.enterAuto (x : Side) (s : State) : State :=
  let d := s.side x
  (((s.setSide x { d with state := .auto, lease := none, context := s.entryContext x }).restartSettle
    x).tellPlanGap.tellStationInvalid).tellSideFrozen

/-- ENGAGE (R99). -/
def engage (p : List Byte) (s : State) : State × Reply :=
  withSide p s fun x =>
    let d := s.side x
    if d.state = .referencing then refuse .wrongState s
    else if d.state = .auto then taken s
    else if !s.isReferenced x then refuse .unreferenced s
    else if !s.roleLive (gradeRole x) then refuse .notLive s
    else if d.mode = .slope && !s.roleLive .crossSlope then refuse .notLive s
    else taken (s.enterAuto x)

/-- A side that is not in AUTO goes to IDLE or MANUAL: referencing is abandoned, and the lease ends
(R102, R103). -/
def SideLoop.standDown (dest : SideState) (demand : Int) (d : SideLoop) : SideLoop :=
  { d with state := dest, demand := demand, lease := none, referencing := none }

/-- A side is taken to IDLE (R102). -/
def State.disengageSide (x : Side) (s : State) : State :=
  let d := s.side x
  match d.state with
  | .idle => s
  | .manual => s.setSide x (d.standDown .idle 0)
  | .referencing => s.setSide x (d.standDown .idle 0)
  | .auto => s.leaveAuto x .idle
  | .frozen => (s.setSide x (d.standDown .idle 0)).tellSideFrozen

/-- DISENGAGE (R102). -/
def disengage (p : List Byte) (s : State) : State × Reply :=
  withSide p s fun x => taken (s.disengageSide x)

/-- A jog lease starts afresh (R103). -/
def State.startLease (x : Side) (dir : Direction) (s : State) : State :=
  s.setSide x { s.side x with lease := some ⟨dir, Config.leaseMs⟩ }

/-- A side is taken to MANUAL for a jog (R103); the held demand is kept. -/
def State.toManual (x : Side) (s : State) : State :=
  let d := s.side x
  match d.state with
  | .idle => s.setSide x (d.standDown .manual d.demand)
  | .manual => s
  | .referencing => s.setSide x (d.standDown .manual d.demand)
  | .auto => s.leaveAuto x .manual
  | .frozen => (s.setSide x (d.standDown .manual d.demand)).tellSideFrozen

/-- JOG (R103). -/
def jog (p : List Byte) (s : State) : State × Reply :=
  withSide p s fun x =>
    match directionOf (fieldAt p 1 1) with
    | none => refuse .outOfRange s
    | some dir => taken ((s.toManual x).startLease x dir)

/-- A side enters REFERENCING (R110). -/
def State.startReferencing (x : Side) (s : State) : State :=
  let value (r : Role) : Int := ((s.roleChannel r).bind Channel.value).getD 0
  s.setSide x { s.side x with
    state := .referencing
    lease := none
    referencing := some ⟨value .drumLoad, value (gradeRole x)⟩ }

/-- The drum is turning: the DRUM_LOAD channel is LIVE with drum engaged (R109). -/
def State.drumTurning (s : State) : Bool :=
  match s.roleChannel .drumLoad with
  | some c => c.health = .live && c.engaged
  | none => false

/-- REFERENCE (R109). -/
def reference (p : List Byte) (s : State) : State × Reply :=
  withSide p s fun x =>
    let d := s.side x
    if d.state = .referencing || d.state = .auto || d.state = .frozen then refuse .wrongState s
    else if (s.monitor.roles.get (gradeRole x)).isNone then refuse .outOfRange s
    else if !s.roleLive (gradeRole x) then refuse .notLive s
    else if (s.monitor.roles.get .drumLoad).isNone then refuse .outOfRange s
    else if !s.drumTurning then refuse .drumIdle s
    else taken (s.startReferencing x)

/-- SET SIDE MODE (R107). -/
def setSideMode (p : List Byte) (s : State) : State × Reply :=
  withSide p s fun x =>
    let d := s.side x
    match modeOf (fieldAt p 1 1) with
    | none => refuse .outOfRange s
    | some m =>
      if d.state = .auto || d.state = .referencing then refuse .wrongState s
      else if m = d.mode then taken s
      else if m = .slope && (s.side (otherSide x)).mode = .slope then refuse .wrongState s
      else if m = .slope && (s.monitor.roles.get .crossSlope).isNone then refuse .outOfRange s
      else taken (s.setSide x { d with mode := m })

/-- SET TRIM (R108): clamped to −200..+200, answered with the stored trim. -/
def setTrim (p : List Byte) (s : State) : State × Reply :=
  withSide p s fun x =>
    let v := signedAt p 1 2
    let t := bringWithin (-200) 200 v
    (s.setSide x { s.side x with trim := t }, ⟨if t = v then .done else .clamped, intBytes 2 t, none⟩)

/-- The value READ SIDE carries for a measurement that is not valid (R199). -/
def notValid : Int := -32768

/-- The settle step of READ SIDE, 255 when abandoned (R199). -/
def Settle.code : Settle → Nat
  | .settling k _ => k.val
  | .tracking => 3
  | .abandoned => 255

/-- The remaining dwell of READ SIDE in ms, 0 at step 3 and when abandoned (R199). -/
def Settle.remaining : Settle → Nat
  | .settling _ dwell => dwell
  | _ => 0

/-- READ SIDE's report of the plan context (R72, R199). -/
def contextBytes (c : PlanContext) : List Byte :=
  byteOf c.source.code ++ intBytes 2 c.entryDepth ++ beBytes 4 c.entryStation ++ intBytes 2 c.holdDepth ++
  intBytes 2 c.planDepth ++ intBytes 2 c.depthTarget ++ byteOf c.basis.code ++ intBytes 2 c.slopeTarget ++
  intBytes 2 c.heldSlope ++ presentBytes 2 c.override ++ presentBytes 2 (c.offer.map (fun v => (v : Int)))

/-- The forty-five bytes of READ SIDE (R118, R199). -/
def State.sideBytes (x : Side) (s : State) : List Byte :=
  let d := s.side x
  let slope := if d.mode = .slope then s.crossSlope.getD notValid else notValid
  byteOf (sideCode x) ++ byteOf d.state.code ++ byteOf d.mode.code ++ intBytes 2 d.trim ++ intBytes 2 d.demand ++
  byteOf ((d.lease.map (fun l => l.direction.code)).getD 0) ++ byteOf ((d.lease.map Lease.remaining).getD 0) ++
  byteOf d.settle.code ++ beBytes 2 d.settle.remaining ++
  (match d.referencing with
    | some r => byteOf 1 ++ intBytes 1 r.idleLoad ++ intBytes 2 r.startReading
    | none => byteOf 0 ++ intBytes 1 0 ++ intBytes 2 0) ++
  flagBytes (s.isReferenced x) ++ intBytes 2 ((s.measuredDepth x).getD notValid) ++ intBytes 2 slope ++
  contextBytes d.context

/-- READ SIDE (R118). -/
def readSide (p : List Byte) (s : State) : State × Reply :=
  withSide p s fun x => (s, doneWith (s.sideBytes x))

/-! ### Loop arithmetic (R113 to R115) -/

/-- The error of a side (R113): against the depth target, or the height the slope difference makes
across the drum. (In AUTO the measurements are valid, R105; without one the error is 0, log entry 6.) -/
def State.loopError (x : Side) (s : State) : Int :=
  let c := (s.side x).context
  match c.basis with
  | .depth =>
    match s.measuredDepth x with
    | some m => c.depthTarget - m
    | none => 0
  | .slope =>
    match s.crossSlope with
    | some v =>
      let e := ((c.slopeTarget - v) * (Config.drumWidth s.station.drumClass : Int)).tdiv 1000
      match x with
      | .right => e
      | .left => -e
    | none => 0

/-- The error past the dead band (R113). -/
def pastDeadBand (db : Nat) (e : Int) : Int :=
  if e.natAbs ≤ db then 0 else if (db : Int) < e then e - db else e + db

/-- The raw demand (R114). -/
def rawDemand (gain : Nat) (e : Int) : Int := (e * gain).tdiv 16

/-- Clamp and slew of a demand from the held one (R115). -/
def Bank.shape (b : Bank) (prev u : Int) : Int :=
  let v := b.limit u
  if (b.slewStep : Int) < v - prev then prev + b.slewStep
  else if (b.slewStep : Int) < prev - v then prev - b.slewStep
  else v

/-- A command or raw demand becomes the held demand (R115). -/
def State.drive (x : Side) (u : Int) (s : State) : State :=
  s.setSide x { s.side x with demand := s.activeBank.shape (s.side x).demand u }

/-! ### The side interval (R97) -/

/-- The settle state after one counted interval (R132). -/
def Settle.counted (b : Bank) (speed : Int) : Settle → Settle
  | .settling k dwell =>
    if dwell ≤ Config.sideIntervalMs then b.firstStep speed (stepsAfter k)
    else .settling k (dwell - Config.sideIntervalMs)
  | .tracking => .tracking
  | .abandoned => .abandoned

/-- The settle count of an interval in AUTO (R132). -/
def State.countSettle (x : Side) (s : State) : State :=
  s.setSide x { s.side x with settle := (s.side x).settle.counted s.activeBank s.station.speed }

/-- The interval of a side in AUTO: the target computation, the demand with the gain of the step in
force, the settle count, then a restart the computation asked for (R97, R132, R133). -/
def State.autoInterval (x : Side) (s : State) : State :=
  let s₁ := s.computeTarget x
  let b := s₁.activeBank
  let s₂ := s₁.drive x (rawDemand (b.gainOf (s.side x).settle) (pastDeadBand b.deadBand (s₁.loopError x)))
  let s₃ := s₂.countSettle x
  if (s.control x).restart then s₃.restartSettle x else s₃

/-- The judgement of a referencing side at its interval (R111). -/
inductive Judgement where
  | touch
  | failure
  | noResult
  deriving DecidableEq, Repr

/-- The last values of the load and grade channels against the touch level and the travel limit (R111).
(In REFERENCING both values and the captures are held, R105 and R110; without them there is no result,
log entry 6.) -/
def State.judge (x : Side) (s : State) : Judgement :=
  let g := s.station.geometry
  match (s.side x).referencing, (s.roleChannel .drumLoad).bind Channel.value,
    (s.roleChannel (gradeRole x)).bind Channel.value with
  | some r, some load, some reading =>
    if r.idleLoad + g.touchDelta ≤ load then .touch
    else if g.referenceTravel ≤ (reading - r.startReading).natAbs then .failure
    else .noResult
  | _, _, _ => .noResult

/-- The grade channel's zero reference is set to its last value at the touch (R92). -/
def State.zeroAtTouch (x : Side) (s : State) : State :=
  match s.monitor.roles.get (gradeRole x) with
  | some n => s.setChannel n { s.channel n with zero := (s.channel n).value }
  | none => s

/-- The touch (R111). -/
def State.touch (x : Side) (s : State) : State :=
  let s₁ := s.zeroAtTouch x
  (s₁.setSide x { s₁.side x with
    state := .manual, demand := 0, lease := none, referencing := none }).raiseNotice .referenceDone

/-- The interval of a side in REFERENCING (R110, R111, R112). -/
def State.referencingInterval (x : Side) (s : State) : State :=
  match s.judge x with
  | .touch => s.touch x
  | .failure => s.failReferencing x
  | .noResult => s.drive x s.station.geometry.referenceRate

/-- The jog command of a direction (R103). -/
def jogCommand (rate : Nat) : Direction → Int
  | .lower => rate
  | .raise => -(rate : Int)

/-- One interval of a side (R97). -/
def State.sideInterval (x : Side) (s : State) : State :=
  match (s.side x).state with
  | .idle => s
  | .frozen => s
  | .manual =>
    match (s.side x).lease with
    | some l => s.drive x (jogCommand s.station.geometry.jogRate l.direction)
    | none => s
  | .referencing => s.referencingInterval x
  | .auto => s.autoInterval x

/-- The side interval at which the dwell of a settling step expires (R132): in AUTO, with at most one
interval of dwell left. -/
def State.dwellDue (x : Side) (s : State) : Bool :=
  (s.side x).state = .auto &&
    (match (s.side x).settle with | .settling _ dwell => dwell ≤ Config.sideIntervalMs | _ => false)

/-- A running jog lease expires (R104); without one the event cannot occur. -/
def State.expireLease (x : Side) (s : State) : State :=
  let d := s.side x
  if d.lease.isSome then s.setSide x { d with lease := none, demand := 0 } else s

/-! ### The lift outputs (R117) -/

/-- Cycles a lift output is high in each PWM period; 50 % while a reset is held. (It follows the state at
once: DESIGN CHOICE, log entry 14.) -/
def State.liftHigh (x : Side) (s : State) : Int :=
  if s.heldReset.isSome then 600 else 600 + 2 * (s.side x).demand

/-! ### The commands -/

/-- ENGAGE, code 0x40. -/
def execEngage (r : Request) (s : State) : Answer := .next (serve 0x40 1 .consolePanel engage r s)

/-- DISENGAGE, code 0x41. -/
def execDisengage (r : Request) (s : State) : Answer := .next (serve 0x41 1 .consolePanel disengage r s)

/-- JOG, code 0x42. -/
def execJog (r : Request) (s : State) : Answer := .next (serve 0x42 2 .consolePanel jog r s)

/-- REFERENCE, code 0x43. -/
def execReference (r : Request) (s : State) : Answer := .next (serve 0x43 1 .consolePanel reference r s)

/-- SET SIDE MODE, code 0x44. -/
def execSetSideMode (r : Request) (s : State) : Answer := .next (serve 0x44 2 .console setSideMode r s)

/-- SET TRIM, code 0x45. -/
def execSetTrim (r : Request) (s : State) : Answer := .next (serve 0x45 3 .consolePanel setTrim r s)

/-- READ SIDE, code 0x46. -/
def execReadSide (r : Request) (s : State) : Answer := .next (serve 0x46 1 .all readSide r s)

/-- A side's 20 ms interval expires (R97). -/
def execSideIntervalExpiry (x : Side) (s : State) : Answer := .next (s.whileRunning ((s.sideInterval x).nextSidePeriod x))

/-- A side's jog lease runs out (R104). -/
def execJogLeaseExpiry (x : Side) (s : State) : Answer := .next (s.whileRunning (s.expireLease x))

/-- The side interval at which a settle dwell expires (R132): the dwell has no timer of its own, so the
command stands for that interval, and where no dwell is due it cannot occur (log entry 4). -/
def execSettleDwellExpiry (x : Side) (s : State) : Answer :=
  .next (s.whileRunning (if s.dwellDue x then (s.sideInterval x).nextSidePeriod x else s))

end Sys2Proof.Machine
end

