-- ==== Sys2Proof/Machine/Dispatch.lean ====
section
/-! DEFINITION. The meaning of a command: one arm for each constructor of `Instr`. -/
namespace Sys2Proof.Machine

/-- What a command does to everything but the queue of commands. -/
def exec (i : Instr) (s : State) : Host.Outcome State Fault Refusal :=
  match i with
  | .insertZone r => Sys2Proof.Machine.execInsertZone r s
  | .amendZone r => Sys2Proof.Machine.execAmendZone r s
  | .suspendZone r => Sys2Proof.Machine.execSuspendZone r s
  | .reinstateZone r => Sys2Proof.Machine.execReinstateZone r s
  | .retireZone r => Sys2Proof.Machine.execRetireZone r s
  | .readZone r => Sys2Proof.Machine.execReadZone r s
  | .findZone r => Sys2Proof.Machine.execFindZone r s
  | .listZones r => Sys2Proof.Machine.execListZones r s
  | .insertMark r => Sys2Proof.Machine.execInsertMark r s
  | .amendMark r => Sys2Proof.Machine.execAmendMark r s
  | .retireMark r => Sys2Proof.Machine.execRetireMark r s
  | .readMark r => Sys2Proof.Machine.execReadMark r s
  | .listMarks r => Sys2Proof.Machine.execListMarks r s
  | .clearPlan r => Sys2Proof.Machine.execClearPlan r s
  | .writeGeometry r => Sys2Proof.Machine.execWriteGeometry r s
  | .readGeometry r => Sys2Proof.Machine.execReadGeometry r s
  | .fixStation r => Sys2Proof.Machine.execFixStation r s
  | .setTravelSense r => Sys2Proof.Machine.execSetTravelSense r s
  | .readStation r => Sys2Proof.Machine.execReadStation r s
  | .configureChannel r => Sys2Proof.Machine.execConfigureChannel r s
  | .clearChannel r => Sys2Proof.Machine.execClearChannel r s
  | .readChannel r => Sys2Proof.Machine.execReadChannel r s
  | .assignRole r => Sys2Proof.Machine.execAssignRole r s
  | .readRoles r => Sys2Proof.Machine.execReadRoles r s
  | .setZero r => Sys2Proof.Machine.execSetZero r s
  | .engage r => Sys2Proof.Machine.execEngage r s
  | .disengage r => Sys2Proof.Machine.execDisengage r s
  | .jog r => Sys2Proof.Machine.execJog r s
  | .reference r => Sys2Proof.Machine.execReference r s
  | .setSideMode r => Sys2Proof.Machine.execSetSideMode r s
  | .setTrim r => Sys2Proof.Machine.execSetTrim r s
  | .readSide r => Sys2Proof.Machine.execReadSide r s
  | .writeBank r => Sys2Proof.Machine.execWriteBank r s
  | .readBank r => Sys2Proof.Machine.execReadBank r s
  | .setAdvanceCap r => Sys2Proof.Machine.execSetAdvanceCap r s
  | .readGovernor r => Sys2Proof.Machine.execReadGovernor r s
  | .conveyorStart r => Sys2Proof.Machine.execConveyorStart r s
  | .conveyorStop r => Sys2Proof.Machine.execConveyorStop r s
  | .setBeltMode r => Sys2Proof.Machine.execSetBeltMode r s
  | .truckAway r => Sys2Proof.Machine.execTruckAway r s
  | .truckReady r => Sys2Proof.Machine.execTruckReady r s
  | .setTruckTarget r => Sys2Proof.Machine.execSetTruckTarget r s
  | .clearBlock r => Sys2Proof.Machine.execClearBlock r s
  | .clearTotals r => Sys2Proof.Machine.execClearTotals r s
  | .readConveyor r => Sys2Proof.Machine.execReadConveyor r s
  | .readNotices r => Sys2Proof.Machine.execReadNotices r s
  | .acknowledgeNotices r => Sys2Proof.Machine.execAcknowledgeNotices r s
  | .setNoticeMask r => Sys2Proof.Machine.execSetNoticeMask r s
  | .presence r => Sys2Proof.Machine.execPresence r s
  | .restart r => Sys2Proof.Machine.execRestart r s
  | .requestArrival f => Sys2Proof.Machine.execRequestArrival f s
  | .malformedFrameTaken f => Sys2Proof.Machine.execMalformedFrameTaken f s
  | .responseSent => Sys2Proof.Machine.execResponseSent s
  | .responseDiscard => Sys2Proof.Machine.execResponseDiscard s
  | .statusBroadcast => Sys2Proof.Machine.execStatusBroadcast s
  | .broadcastSent => Sys2Proof.Machine.execBroadcastSent s
  | .supervisionExpiry => Sys2Proof.Machine.execSupervisionExpiry s
  | .readingMessage f => Sys2Proof.Machine.execReadingMessage f s
  | .freshnessExpiry n => Sys2Proof.Machine.execFreshnessExpiry n s
  | .ceilingMessageSent => Sys2Proof.Machine.execCeilingMessageSent s
  | .encoderCount e => Sys2Proof.Machine.execEncoderCount e s
  | .encoderDoubleStep => Sys2Proof.Machine.execEncoderDoubleStep s
  | .speedWindowExpiry => Sys2Proof.Machine.execSpeedWindowExpiry s
  | .sideIntervalExpiry x => Sys2Proof.Machine.execSideIntervalExpiry x s
  | .jogLeaseExpiry x => Sys2Proof.Machine.execJogLeaseExpiry x s
  | .settleDwellExpiry x => Sys2Proof.Machine.execSettleDwellExpiry x s
  | .governorIntervalExpiry => Sys2Proof.Machine.execGovernorIntervalExpiry s
  | .loadWindowExpiry => Sys2Proof.Machine.execLoadWindowExpiry s
  | .conveyorIntervalExpiry => Sys2Proof.Machine.execConveyorIntervalExpiry s
  | .runOnExpiry => Sys2Proof.Machine.execRunOnExpiry s
  | .resetAssert src => Sys2Proof.Machine.execResetAssert src s
  | .restartResetStart => Sys2Proof.Machine.execRestartResetStart s
  | .coldResetRelease dclass1 dclass0 encA encB => Sys2Proof.Machine.execColdResetRelease dclass1 dclass0 encA encB s
  | .warmResetRelease encA encB => Sys2Proof.Machine.execWarmResetRelease encA encB s

end Sys2Proof.Machine
end

