-- ==== Sys2Proof/Machine/Step.lean ====
section
/-! DEFINITION. One step: the command at the front of the queue is taken and run. -/
namespace Sys2Proof.Machine

/-- One step. On an empty queue no command acts, and one millisecond passes (log entry 5). -/
def step (s : State) : Host.Outcome State Fault Refusal :=
  match s.pending with
  | [] => .next s.passMs
  | i :: rest => exec i { s with pending := rest }

/-- The state with the command a table word spells at the front of its queue (DESIGN CHOICE, log entry 16). -/
def State.withFetchWord (s : State) (nbits w : Nat) : State :=
  match decodeTableWord nbits w with
  | some i => { s with pending := i :: s.pending }
  | none => s

end Sys2Proof.Machine
end

