-- ==== Sys2Proof/Safety.lean ====
section
/-! DEFINITION. The terms in which claims are stated: the request table of section 10.7, what it means
that a request is served, a mark as the rules place it for a side, and the laws of the part that every step keeps. -/
namespace Sys2Proof.Machine

/-! ### The request table (section 10.7) -/

/-- A row of section 10.7: code, payload size, size of a DONE payload (`none` for the two lists, whose
payload R191 gives) and who may send it. -/
structure RequestRow where
  code : Nat
  size : Nat
  done : Option Nat
  grant : Grant
  deriving DecidableEq, Repr

/-- The request a command takes, with its row; `none` for the 24 events. -/
def requestRow : Instr → Option (RequestRow × Request)
  | .insertZone r => some (⟨0x10, 20, some 1, .consoleTerminal⟩, r)
  | .amendZone r => some (⟨0x11, 21, some 0, .consoleTerminal⟩, r)
  | .suspendZone r => some (⟨0x12, 1, some 0, .consoleTerminal⟩, r)
  | .reinstateZone r => some (⟨0x13, 1, some 0, .consoleTerminal⟩, r)
  | .retireZone r => some (⟨0x14, 1, some 0, .consoleTerminal⟩, r)
  | .readZone r => some (⟨0x15, 1, some 23, .all⟩, r)
  | .findZone r => some (⟨0x16, 4, some 1, .all⟩, r)
  | .listZones r => some (⟨0x17, 4, none, .all⟩, r)
  | .insertMark r => some (⟨0x18, 11, some 1, .consoleTerminal⟩, r)
  | .amendMark r => some (⟨0x19, 12, some 0, .consoleTerminal⟩, r)
  | .retireMark r => some (⟨0x1A, 1, some 0, .consoleTerminal⟩, r)
  | .readMark r => some (⟨0x1B, 1, some 14, .all⟩, r)
  | .listMarks r => some (⟨0x1C, 4, none, .all⟩, r)
  | .clearPlan r => some (⟨0x1F, 0, some 0, .console⟩, r)
  | .writeGeometry r => some (⟨0x20, 30, some 0, .console⟩, r)
  | .readGeometry r => some (⟨0x21, 0, some 37, .all⟩, r)
  | .fixStation r => some (⟨0x22, 4, some 0, .consoleTerminal⟩, r)
  | .setTravelSense r => some (⟨0x23, 1, some 0, .console⟩, r)
  | .readStation r => some (⟨0x24, 0, some 10, .all⟩, r)
  | .configureChannel r => some (⟨0x30, 5, some 0, .console⟩, r)
  | .clearChannel r => some (⟨0x31, 1, some 0, .console⟩, r)
  | .readChannel r => some (⟨0x32, 1, some 21, .all⟩, r)
  | .assignRole r => some (⟨0x33, 2, some 0, .console⟩, r)
  | .readRoles r => some (⟨0x34, 0, some 15, .all⟩, r)
  | .setZero r => some (⟨0x35, 3, some 0, .consolePanel⟩, r)
  | .engage r => some (⟨0x40, 1, some 0, .consolePanel⟩, r)
  | .disengage r => some (⟨0x41, 1, some 0, .consolePanel⟩, r)
  | .jog r => some (⟨0x42, 2, some 0, .consolePanel⟩, r)
  | .reference r => some (⟨0x43, 1, some 0, .consolePanel⟩, r)
  | .setSideMode r => some (⟨0x44, 2, some 0, .console⟩, r)
  | .setTrim r => some (⟨0x45, 3, some 2, .consolePanel⟩, r)
  | .readSide r => some (⟨0x46, 1, some 45, .all⟩, r)
  | .writeBank r => some (⟨0x50, 21, some 0, .console⟩, r)
  | .readBank r => some (⟨0x51, 1, some 21, .all⟩, r)
  | .setAdvanceCap r => some (⟨0x58, 2, some 2, .console⟩, r)
  | .readGovernor r => some (⟨0x59, 0, some 13, .all⟩, r)
  | .conveyorStart r => some (⟨0x60, 0, some 0, .console⟩, r)
  | .conveyorStop r => some (⟨0x61, 0, some 0, .console⟩, r)
  | .setBeltMode r => some (⟨0x62, 3, some 3, .console⟩, r)
  | .truckAway r => some (⟨0x63, 0, some 0, .console⟩, r)
  | .truckReady r => some (⟨0x64, 0, some 0, .console⟩, r)
  | .setTruckTarget r => some (⟨0x65, 4, some 2, .console⟩, r)
  | .clearBlock r => some (⟨0x66, 0, some 0, .console⟩, r)
  | .clearTotals r => some (⟨0x67, 0, some 0, .console⟩, r)
  | .readConveyor r => some (⟨0x68, 0, some 42, .all⟩, r)
  | .readNotices r => some (⟨0x70, 0, some 29, .all⟩, r)
  | .acknowledgeNotices r => some (⟨0x71, 3, some 3, .all⟩, r)
  | .setNoticeMask r => some (⟨0x72, 3, some 0, .console⟩, r)
  | .presence r => some (⟨0x7E, 0, some 0, .consoleTerminal⟩, r)
  | .restart r => some (⟨0x7F, 0, some 0, .console⟩, r)
  | .requestArrival _ | .malformedFrameTaken _ | .responseSent | .responseDiscard | .statusBroadcast
  | .broadcastSent | .supervisionExpiry | .readingMessage _ | .freshnessExpiry _ | .ceilingMessageSent
  | .encoderCount _ | .encoderDoubleStep | .speedWindowExpiry | .sideIntervalExpiry _ | .jogLeaseExpiry _
  | .settleDwellExpiry _ | .governorIntervalExpiry | .loadWindowExpiry | .conveyorIntervalExpiry | .runOnExpiry
  | .resetAssert _ | .restartResetStart | .coldResetRelease _ _ _ _ | .warmResetRelease _ _ => none

/-! ### A request that is taken and served -/

/-- The interface may take a frame and this frame is the one at the head of the queue (R187, R194). -/
structure State.atHead (s : State) (code : Nat) (r : Request) : Prop where
  running : s.heldReset = none
  free : s.link.response = none
  noRestart : s.link.restartTaken = false
  head : s.link.queue.head? = some ⟨r.requester, BitVec.ofNat 8 code :: r.tag :: r.plen :: r.body⟩

/-- The payload length byte is the request's size and the frame carries that many bytes (R188 test 2). -/
def sizedAs (size : Nat) (r : Request) : Prop := r.plen.toNat = size ∧ size ≤ r.body.length

/-- The request is taken now and passes the interface's tests, so that its owning block decides (R188). -/
structure State.serves (s : State) (i : Instr) (row : RequestRow) (r : Request) : Prop where
  isRow : requestRow i = some (row, r)
  atHead : s.atHead row.code r
  sized : sizedAs row.size r
  permitted : row.grant.admits r.requester (r.body.take row.size) = true

/-- The state once the frame at the head has left the queue (R187). -/
def State.popped (s : State) : State := { s with link.queue := s.link.queue.tail }

/-- The outcome of a request: its effect on the state without the frame, and the response in its slot
with 100 ms to leave (R190), a second segment behind it (R191). -/
def State.answers (s : State) (row : RequestRow) (r : Request) (status : Status) (payload : List Byte)
    (second : Option (List Byte) := none) : State :=
  let frame (p : List Byte) : List Byte :=
    BitVec.ofNat 8 row.code :: r.tag :: BitVec.ofNat 8 status.code :: BitVec.ofNat 8 p.length :: p
  { s with link.response := some ⟨r.requester, frame payload, 100, second.map frame⟩ }

/-- A refusal leaves everything but the frame taken and the response as it was (R2). -/
def State.refuses (s : State) (row : RequestRow) (r : Request) (status : Status) : State :=
  s.popped.answers row r status []

/-- The four statuses that a response may carry with a payload are DONE and CLAMPED only (R190). -/
def Status.accepted (v : Status) : Bool := v = .done || v = .clamped

/-! ### A mark seen from a side (R60, R61, R62, R63, R69)

These are the rules' own formulas, written apart from the operations of `Machine/Target.lean`, so that a
statement that uses them says what the rules say. -/

/-- What R61, R62 and R69 form for a mark and a reference depth: the ends `lo` and `hi` of the protected extent,
the envelope `env` at S, and the approach length `a`. -/
structure MarkFigures where
  lo : Int
  hi : Int
  env : Int
  a : Int

/-- The figures of a mark for a reference depth: the half-chord from the drum's radius, the extent about the mark's
stretch, the envelope from the mark's own gradient or the geometry record's, the approach length rounded up. -/
def State.figures (s : State) (dref : Int) (m : MarkFields) : MarkFigures :=
  let radius : Nat := Config.drumRadius s.station.drumClass
  let root : Nat := isqrt (dref * (20 * (radius : Int) - dref)).toNat
  let h : Int := ((root + 99) / 100 : Nat)
  let lo : Int := m.start - h
  let hi : Int := (m.start : Int) + m.length - 1 + h
  let g : Nat := m.gradient.getD s.station.geometry.markGradient
  let st : Int := s.station.station
  let above : Nat := (dref - m.clearance).toNat
  { lo := lo
    hi := hi
    env := if st < lo then m.clearance + g * (lo - st) else if hi < st then m.clearance + g * (st - hi) else m.clearance
    a := (above / g + if above % g = 0 then 0 else 1 : Nat) }

/-- S lies in the protected extent: PROTECTED (R63). -/
def State.withinExtent (s : State) (dref : Int) (m : MarkFields) : Prop :=
  let f := s.figures dref m
  f.lo ≤ s.station.station ∧ (s.station.station : Int) ≤ f.hi

/-- S lies in the mark's lookahead region, both ends included (R69). -/
def State.withinLookahead (s : State) (dref : Int) (m : MarkFields) : Prop :=
  let f := s.figures dref m
  let st : Int := s.station.station
  let lead : Int := s.station.geometry.lookaheadLead
  match s.station.sense with
  | .ascending => f.lo - f.a - lead ≤ st ∧ st ≤ f.hi
  | .descending => f.lo ≤ st ∧ st ≤ f.hi + f.a + lead

/-- `dref` is the reference depth of a side whose computation formed the plan depth `P` (R59, R60): the trimmed
depth in GRADE mode, D_cap under a slope override, else the measured depth, each within 0..maximum. -/
def State.refersTo (s : State) (x : Side) (P dref : Int) : Prop :=
  let clamp (v : Int) : Int := if v < 0 then 0 else if (s.maxDepth : Int) < v then s.maxDepth else v
  match (s.side x).mode, (s.side x).context.override with
  | .grade, _ => dref = clamp (P + (s.side x).trim)
  | .slope, some cap => dref = cap
  | .slope, none => ∃ m, s.measuredDepth x = some m ∧ dref = clamp m

/-- A mark when a side leaves AUTO (R57): that side's inside flag becomes no, and the announced flag where the other
inside flag is no too; its fields, its held positions and the other side's inside flag stand. -/
def Mark.leftBy (x : Side) (m : Mark) : Mark := { m with memory := match x with
  | .left => { m.memory with
      insideLeft := false, announced := if m.memory.insideRight then m.memory.announced else false }
  | .right => { m.memory with
      insideRight := false, announced := if m.memory.insideLeft then m.memory.announced else false } }

/-! ### The laws of the part -/

/-- The zone table (R3, R4, R5): in order without overlap, distinct numbers in 1..64, every field in its
range, the clipped flag as the latched drum class gives it. -/
def ZonesOk (s : State) : Prop :=
  s.plan.zones.Pairwise (fun a b => a.fields.stop ≤ b.fields.start) ∧
  (s.plan.zones.map Zone.number).Nodup ∧
  ∀ z ∈ s.plan.zones, 1 ≤ z.number ∧ z.number ≤ 64 ∧ z.fields.inRange = true ∧
    z.clipped = (s.maxDepth < z.fields.leftDepth || s.maxDepth < z.fields.rightDepth)

/-- The position a mark holds for a side while none is evaluated (R23). -/
def Mark.position (x : Side) (m : Mark) : MarkPosition :=
  match x with
  | .left => m.posLeft
  | .right => m.posRight

/-- The inside flag a mark holds for a side (R48). -/
def Mark.inside (x : Side) (m : Mark) : Bool :=
  match x with
  | .left => m.memory.insideLeft
  | .right => m.memory.insideRight

/-- What holds of a mark and one side: an uncovered side is CLEAR, a covered one UNKNOWN while the station
is invalid (R23), and the drum is inside its region only for a covered side in AUTO (R57, R71). -/
def Mark.sideOk (s : State) (x : Side) (m : Mark) : Prop :=
  (m.fields.covers x = false → m.position x = .clear) ∧
  (m.fields.covers x = true → s.station.valid = false → m.position x = .unknown) ∧
  (m.inside x = true → m.fields.covers x = true ∧ (s.side x).state = .auto)

/-- The mark table (R21, R22, R23) and the MARK_AHEAD memory (R57, R71). -/
def MarksOk (s : State) : Prop :=
  s.plan.marks.Pairwise (fun a b => a.fields.start < b.fields.start ∨
    (a.fields.start = b.fields.start ∧ a.number < b.number)) ∧
  (s.plan.marks.map Mark.number).Nodup ∧
  ∀ m ∈ s.plan.marks, 1 ≤ m.number ∧ m.number ≤ 32 ∧ m.fields.inRange s.maxDepth = true ∧
    m.sideOk s .left ∧ m.sideOk s .right ∧
    (m.memory.announced = true → m.memory.insideLeft = true ∨ m.memory.insideRight = true)

/-- A zone is in force at the station: not suspended, containing S, with the station valid (R16). -/
def State.inForce (s : State) (z : Zone) : Prop :=
  s.station.valid = true ∧ z.suspended = false ∧ z.fields.start ≤ s.station.station ∧
    s.station.station < z.fields.stop

/-- The governing-zone number names the zone in force, and is none when there is none (R16). -/
def GovernanceOk (s : State) : Prop :=
  match s.plan.governing with
  | some n => ∃ z ∈ s.plan.zones, z.number = n ∧ s.inForce z
  | none => ∀ z ∈ s.plan.zones, ¬ s.inForce z

/-- The Station Counter (R32, R37): S and f in their ranges and every geometry field in its own. -/
def StationOk (s : State) : Prop :=
  s.station.station ≤ 9999999 ∧ s.station.fine ≤ 9999 ∧ s.station.geometry.inRange = true

/-- What holds of one channel record (R73, R74, R75, R76). -/
def Channel.ok (c : Channel) : Prop :=
  match c.config with
  | none => c = emptyChannel
  | some g =>
    1 ≤ g.address ∧ g.address ≤ 63 ∧ 1 ≤ g.timeout ∧ g.timeout ≤ 40 ∧
    (c.zero.isSome = true → g.kind.isGrade = true) ∧
    (∀ v ∈ c.value, g.kind.inRange v = true) ∧
    (c.health = .live → c.value.isSome = true) ∧
    (c.health = .absent ↔ c.status = none) ∧
    (c.timer.isSome = true ↔ c.health = .live ∨ c.health = .rejected) ∧
    (∀ t ∈ c.timer, t ≤ g.timeout * 50) ∧
    (c.engaged = true → g.kind = .load)

/-- A role refers to a configured channel of a kind it admits (R84). -/
def State.roleOk (s : State) (r : Role) : Prop :=
  ∀ n ∈ s.monitor.roles.get r, ∃ g ∈ (s.channel n).config, r.admits g.kind = true

/-- Two configured channels that share a link address are one channel (R84). -/
def State.addressesDistinct (s : State) : Prop :=
  ∀ m n : Fin 8, ∀ a ∈ (s.channel m).config, ∀ b ∈ (s.channel n).config, a.address = b.address → m = n

/-- The Channel Monitor (R73 to R76, R84). -/
def ChannelsOk (s : State) : Prop :=
  (∀ n : Fin 8, (s.channel n).ok) ∧ s.addressesDistinct ∧ (∀ r ∈ allRoles, s.roleOk r) ∧
  ∀ q ∈ allRoles, ∀ r ∈ allRoles, (s.monitor.roles.get q).isSome = true →
    s.monitor.roles.get q = s.monitor.roles.get r → q = r

/-- A role is assigned to a LIVE channel. -/
def State.holdsLive (s : State) (r : Role) : Prop := ∃ c ∈ s.roleChannel r, c.health = .live

/-- What holds of one side's state (R96, R105, R110, R130, R48). -/
def State.sideOk (s : State) (x : Side) : Prop :=
  ((s.side x).state = .auto → s.holdsLive (gradeRole x) ∧ s.isReferenced x = true ∧
    ((s.side x).mode = .slope → s.holdsLive .crossSlope)) ∧
  ((s.side x).state = .referencing → s.holdsLive (gradeRole x) ∧
    ∃ c ∈ s.roleChannel .drumLoad, c.health = .live ∧ c.engaged = true) ∧
  ((s.side x).referencing.isSome = true ↔ (s.side x).state = .referencing) ∧
  ((s.side x).lease.isSome = true → (s.side x).state = .manual) ∧
  ((s.side x).settle = .abandoned ↔ (s.side x).state ≠ .auto) ∧
  ((s.side x).context.override.isSome = true → (s.side x).state = .auto ∧ (s.side x).mode = .slope) ∧
  ((s.side x).context.offer.isSome = true → (s.side x).state = .auto) ∧
  ((s.side x).state = .auto → ((s.side x).context.source = .plan ↔ s.plan.governing.isSome = true))

/-- The two sides (R105, R107): each as above, and never both in SLOPE mode. -/
def SidesOk (s : State) : Prop :=
  s.sideOk .left ∧ s.sideOk .right ∧ ¬(s.left.mode = .slope ∧ s.right.mode = .slope)

/-- What holds of one side's demand and trim (R108, R115, R96). -/
def State.demandOk (s : State) (x : Side) : Prop :=
  ((s.side x).state = .idle ∨ (s.side x).state = .frozen → (s.side x).demand = 0) ∧
  ((s.side x).state = .manual → (s.side x).lease = none → (s.side x).demand = 0) ∧
  -(s.activeBank.raiseMax : Int) ≤ (s.side x).demand ∧ (s.side x).demand ≤ s.activeBank.lowerMax ∧
  -200 ≤ (s.side x).trim ∧ (s.side x).trim ≤ 200 ∧
  ∀ l ∈ (s.side x).lease, l.remaining ≤ 250

/-- The banks and the demands (R115, R116, R122). -/
def DemandsOk (s : State) : Prop :=
  s.banks.soft.inRange = true ∧ s.banks.hard.inRange = true ∧ s.demandOk .left ∧ s.demandOk .right

/-- A value lies in a range. -/
def between (lo hi v : Int) : Prop := lo ≤ v ∧ v ≤ hi

/-- The ranges of one side's plan context (R48, R64). -/
def State.contextOk (s : State) (x : Side) : Prop :=
  let c := (s.side x).context
  between 0 5000 c.entryDepth ∧ c.entryStation ≤ 9999999 ∧ between 0 5000 c.holdDepth ∧
  between 0 5000 c.planDepth ∧ between 0 s.maxDepth c.depthTarget ∧ between (-1500) 1500 c.slopeTarget ∧
  between (-1500) 1500 c.heldSlope ∧ ∀ d ∈ c.override, between 0 s.maxDepth d

/-- Both sides' plan contexts (R48, R64). -/
def TargetsOk (s : State) : Prop := s.contextOk .left ∧ s.contextOk .right

/-- The Advance Governor (R137, R139, R147): the ceiling never above the operator cap, the reduction one
of its nine values, and ceiling 0 with reason RESET until a message is formed. -/
def GovernorOk (s : State) : Prop :=
  s.governor.cap ≤ 600 ∧ s.governor.ceiling ≤ s.governor.cap ∧
  s.governor.reduction ∈ [0, 10, 20, 30, 40, 50, 60, 70, 100] ∧ s.governor.belowCount ≤ 1 ∧
  (s.governor.formed = false → s.governor.ceiling = 0 ∧ s.governor.reason = .reset ∧ s.governor.count = 0)

/-- The material account and the conveyor's own records (R155, R159, R165, R171). -/
def MaterialOk (s : State) : Prop :=
  let c := s.conveyor
  let g := s.station.geometry
  c.milled = c.delivered + c.fill + c.spill ∧ c.fill ≤ g.housingCapacity ∧ c.milled ≤ 999999999999 ∧
  c.truckCounter ≤ 999999999 ∧ c.truckTarget ≤ 40000 ∧ c.blockCount ≤ 9 ∧
  g.beltMin ≤ c.fixedSpeed ∧ c.fixedSpeed ≤ g.beltMax ∧ c.beltSpeed ≤ 500 ∧ (∀ v ∈ c.neededSpeed, v ≤ 500) ∧
  (c.state = .stopped ∨ c.state = .held ∨ c.state = .blocked → c.beltSpeed = 0 ∧ c.blockCount = 0) ∧
  (if c.state = .runOn then c.runOnSpeed = some c.beltSpeed ∧ 1 ≤ c.runOnCount ∧ c.runOnCount ≤ 300
   else c.runOnSpeed = none ∧ c.runOnCount = 0)

/-- The condition each condition notice stands for, as the rule that owns it says; an event notice has
none (the table of Chapter 9). -/
def State.condition (s : State) (n : Notice) : Prop :=
  let auto (x : Side) : Prop := (s.side x).state = .auto
  match n with
  | .planGap => ∃ x, auto x ∧ (s.side x).context.source = .hold
  | .stationInvalid => s.station.valid = false ∧ ∃ x, auto x
  | .sensorLost => ∃ r, ∃ c ∈ s.roleChannel r, c.health ≠ .live
  | .sideFrozen => ∃ x, (s.side x).state = .frozen
  | .fillHigh => s.conveyor.fillLatch = true
  | .truckFull => 0 < s.conveyor.truckTarget ∧ s.conveyor.truckTarget * 100 ≤ s.conveyor.truckCounter
  | .beltBlocked => s.conveyor.state = .blocked
  | .linkLost => s.link.linkLoss = true
  | _ => False

/-- Every cause is present exactly while its condition holds (R47, R58, R93, R106, R166, R167, R171,
R193), and a present cause keeps its latch set (R179, R182). -/
def CausesOk (s : State) : Prop :=
  ∀ n : Notice, ((s.notice n).cause = true ↔ s.condition n) ∧ ((s.notice n).cause = true → (s.notice n).latch = true)

/-- ALERTn is driven low exactly while no reset is held and some unmasked latch is set (R180, R198). -/
def AlertOk (s : State) : Prop :=
  s.notices.alertLow = true ↔ s.heldReset = none ∧ ∃ n : Notice, (s.notice n).latch = true ∧ (s.notice n).masked = false

/-- The links (R187, R190, R192, R193, R196, R198). -/
def LinkOk (s : State) : Prop :=
  s.link.queue.length ≤ 4 ∧ (∀ v ∈ s.link.response, v.remaining ≤ 100) ∧ s.link.broadcastTimer ≤ 100 ∧
  (∀ t ∈ s.link.supervision, t ≤ 1500) ∧ (s.link.supervision = none ↔ s.link.linkLoss = true) ∧
  (∀ m ∈ s.sensorLink.ceilingMessage, m.length = 4) ∧ (∀ b ∈ s.link.broadcast, b.length = 42) ∧
  (s.heldReset ≠ none → s.link.queue = [] ∧ s.link.response = none ∧ s.link.broadcast = none ∧
    s.link.restartTaken = false ∧ s.sensorLink.ceilingMessage = none)

/-- No free-running timer stands above its period (R37, R97, R137, R155). -/
def TimersOk (s : State) : Prop :=
  s.timers.leftSide ≤ 20 ∧ s.timers.rightSide ≤ 20 ∧ s.timers.governor ≤ 50 ∧ s.timers.loadWindow ≤ 500 ∧
  s.timers.conveyor ≤ 100 ∧ s.timers.speedWindow ≤ 100

/-- All the laws together. -/
structure Inv (s : State) : Prop where
  zones : ZonesOk s
  marks : MarksOk s
  governance : GovernanceOk s
  station : StationOk s
  channels : ChannelsOk s
  sides : SidesOk s
  demands : DemandsOk s
  targets : TargetsOk s
  governor : GovernorOk s
  material : MaterialOk s
  causes : CausesOk s
  alert : AlertOk s
  link : LinkOk s
  timers : TimersOk s

end Sys2Proof.Machine
end

