-- ==== Sys2Proof/Certificates/Slice0/Obligations.lean ====
section
/-! DEFINITION. The statements for the provers, from the numbered rules of the spec: the queue and the
plan link, the requests family by family, the events, the resets, and the laws every step keeps. The
words they use (`serves`, `popped`, `answers`, `refuses`, the laws) stand in `Sys2Proof/Safety.lean`. -/
open Sys2Proof Sys2Proof.Machine

/-! ### The step and the queue of commands -/

/-- A step of a part whose front command is `c` runs `c` on the state with the rest of the queue. -/
def Obligations.StepRunsFrontCommand : Prop :=
  ∀ (c : Instr) (rest : List Instr) (s : State),
    step { s with pending := c :: rest } = exec c { s with pending := rest }

/-- On an empty queue one millisecond passes (the model's choice, log entry 5): each running time falls by
one, no further than 0, nothing else changes, and while a reset is held nothing at all does. -/
def Obligations.EmptyQueuePassesOneMillisecond : Prop :=
  ∀ s : State, s.pending = [] → ∃ t, step s = .next t ∧
    (s.heldReset ≠ none → t = s) ∧
    (s.heldReset = none →
      (∀ n, t.channel n = { s.channel n with timer := (s.channel n).timer.map (· - 1) }) ∧
      t.left = { s.left with lease := s.left.lease.map (fun l => { l with remaining := l.remaining - 1 }) } ∧
      t.right = { s.right with lease := s.right.lease.map (fun l => { l with remaining := l.remaining - 1 }) } ∧
      t.link = { s.link with
        response := s.link.response.map (fun v => { v with remaining := v.remaining - 1 })
        broadcastTimer := s.link.broadcastTimer - 1
        supervision := s.link.supervision.map (· - 1) } ∧
      t.monitor.roles = s.monitor.roles ∧ t.plan = s.plan ∧ t.station = s.station ∧ t.banks = s.banks ∧
      t.governor = s.governor ∧ t.conveyor = s.conveyor ∧ t.notices = s.notices ∧ t.sensorLink = s.sensorLink ∧
      t.timers = ⟨s.timers.leftSide - 1, s.timers.rightSide - 1, s.timers.governor - 1, s.timers.loadWindow - 1,
        s.timers.conveyor - 1, s.timers.speedWindow - 1⟩ ∧
      t.heldReset = s.heldReset ∧ t.pending = s.pending)

/-- The machine right after reset keeps every law of the part. -/
def Obligations.ResetMeetsEveryLaw : Prop := Inv State.reset

/-- No command ends in a fault or a refusal, and none touches the queue of commands. -/
def Obligations.CommandsCompleteAndKeepTheQueue : Prop :=
  ∀ (i : Instr) (s : State), ∃ t, exec i s = .next t ∧ t.pending = s.pending

/-! ### Requests and responses (Chapter 10) -/

/-- A served request gets one response (R190): its code and tag, a status and the payload's length and
bytes, with 100 ms to leave, a frame in the flexible data-rate format on the requester's response identifier
(R186; that the bytes end with the payload is the model's choice, log entry 18); no payload unless DONE or
CLAMPED, and then of the size section 10.7 gives. The frame has left the queue, and the rest of the links stands. -/
def Obligations.ServedRequestsAreAnsweredOnce : Prop :=
  ∀ (i : Instr) (row : RequestRow) (r : Request) (s : State), s.serves i row r →
    ∃ t status payload second, exec i s = .next t ∧
      (let data : List Byte := BitVec.ofNat 8 row.code :: r.tag :: BitVec.ofNat 8 (Status.code status) ::
        BitVec.ofNat 8 payload.length :: payload
      t.link.response = some ⟨r.requester, data, 100, second⟩ ∧
      t.responseFrame = some ⟨true, match r.requester with
        | .console => 0x381 | .planTerminal => 0x382 | .leftPanel => 0x383 | .rightPanel => 0x384, data⟩) ∧
      (status.accepted = false → payload = [] ∧ second = none) ∧
      (status.accepted = true → ∀ n ∈ row.done, payload.length = n ∧ second = none) ∧
      t.link = { s.link with
        queue := s.link.queue.tail
        response := t.link.response
        restartTaken := t.link.restartTaken } ∧
      (t.link.restartTaken = true ↔ i = .restart r) ∧
      t.sensorLink = s.sensorLink ∧ t.timers = s.timers ∧ t.heldReset = s.heldReset

/-- Tests 2 and 3 of R188 and the permissions of R189: a frame whose length byte or data bytes do not fit
is answered BAD_REQUEST, one of a requester without permission NOT_PERMITTED, and neither changes more than
the queue and the response; and who may send what, by the kind of grant section 10.7 gives. -/
def Obligations.RequestChecksComeInOrder : Prop :=
  (∀ (i : Instr) (row : RequestRow) (r : Request) (s : State),
    requestRow i = some (row, r) → s.atHead row.code r →
      (¬ sizedAs row.size r → exec i s = .next (s.refuses row r .badRequest)) ∧
      (sizedAs row.size r → row.grant.admits r.requester (r.body.take row.size) = false →
        exec i s = .next (s.refuses row r .notPermitted))) ∧
  ∀ (g : Grant) (q : Requester) (p : List Byte), g.admits q p = true ↔
    q = .console ∨ g = .all ∨ (q = .planTerminal ∧ g = .consoleTerminal) ∨
    (q = .leftPanel ∧ g = .consolePanel ∧ fieldAt p 0 1 = 1) ∨
    (q = .rightPanel ∧ g = .consolePanel ∧ fieldAt p 0 1 = 2)

/-- A request answered with any status but DONE and CLAMPED leaves everything as it was (R2): only its
frame has left the queue and its response stands in the slot. -/
def Obligations.RefusedRequestsChangeNothing : Prop :=
  ∀ (i : Instr) (row : RequestRow) (r : Request) (s t : State) (status : Status) (m : ResponseSlot),
    requestRow i = some (row, r) → s.atHead row.code r → exec i s = .next t → t.link.response = some m →
    m.data.getD 2 0 = BitVec.ofNat 8 (Status.code status) → status.accepted = false → t = s.refuses row r status

/-- When a request is taken (R187, R194; the model's readings, log entries 2 and 11): not while a reset is held, a
response stands in the slot, a RESTART waits, or another frame is at the head; and on an empty queue the
command stands for the frame's arrival and its take together. -/
def Obligations.RequestsWaitForTheirTurn : Prop :=
  ∀ (i : Instr) (row : RequestRow) (r : Request) (s : State), requestRow i = some (row, r) →
    (s.heldReset ≠ none ∨ s.link.response ≠ none ∨ s.link.restartTaken = true ∨
      (∃ f rest, s.link.queue = f :: rest ∧ f ≠ requestFrame row.code r) → exec i s = .next s) ∧
    (s.heldReset = none → s.link.response = none → s.link.restartTaken = false → s.link.queue = [] →
      exec i s = exec i (s.arrive (requestFrame row.code r)))

/-! ### Zones (Chapter 1) -/

/-- Tests 1 and 2 of R7: a number outside the table's range, and a number no record holds. -/
def Obligations.NumberedRequestsTestTheirNumber : Prop :=
  ∀ (i : Instr) (row : RequestRow) (r : Request) (s : State), s.serves i row r →
    let n := fieldAt (r.body.take row.size) 0 1
    ((i = .amendZone r ∨ i = .suspendZone r ∨ i = .reinstateZone r ∨ i = .retireZone r ∨ i = .readZone r) →
      (n = 0 ∨ 64 < n → exec i s = .next (s.refuses row r .outOfRange)) ∧
      (1 ≤ n → n ≤ 64 → (∀ z ∈ s.plan.zones, z.number ≠ n) → exec i s = .next (s.refuses row r .noRecord))) ∧
    ((i = .amendMark r ∨ i = .retireMark r ∨ i = .readMark r) →
      (n = 0 ∨ 32 < n → exec i s = .next (s.refuses row r .outOfRange)) ∧
      (1 ≤ n → n ≤ 32 → (∀ m ∈ s.plan.marks, m.number ≠ n) → exec i s = .next (s.refuses row r .noRecord)))

/-- INSERT ZONE (R7, R8): OUT_OF_RANGE, OVERLAP and TABLE_FULL in that order, or the record stored in start
order under the lowest free number, DEPTH_CLIPPED raised when it is clipped, and governance re-evaluated. -/
def Obligations.InsertZoneStoresTheRecord : Prop :=
  ∀ (r : Request) (row : RequestRow) (s : State), s.serves (.insertZone r) row r →
    (checkedZone (r.body.take row.size) = none → exec (.insertZone r) s = .next (s.refuses row r .outOfRange)) ∧
    ∀ f, checkedZone (r.body.take row.size) = some f →
      ((∃ z ∈ s.plan.zones, z.fields.start < f.stop ∧ f.start < z.fields.stop) →
        exec (.insertZone r) s = .next (s.refuses row r .overlap)) ∧
      ((∀ z ∈ s.plan.zones, ¬(z.fields.start < f.stop ∧ f.start < z.fields.stop)) →
        ((∀ n, 1 ≤ n → n ≤ 64 → n ∈ s.plan.zones.map Zone.number) →
          exec (.insertZone r) s = .next (s.refuses row r .tableFull)) ∧
        ∀ n, 1 ≤ n → n ≤ 64 → n ∉ s.plan.zones.map Zone.number →
          (∀ m, 1 ≤ m → m < n → m ∈ s.plan.zones.map Zone.number) →
          let clip : Bool := s.maxDepth < f.leftDepth || s.maxDepth < f.rightDepth
          ∃ zs : List Zone, zs.Perm (⟨n, f, false, clip⟩ :: s.plan.zones) ∧
            (s.plan.zones.Pairwise (fun a b => a.fields.start ≤ b.fields.start) →
              zs.Pairwise (fun a b => a.fields.start ≤ b.fields.start)) ∧
            let t : State := { s.popped with plan.zones := zs }
            exec (.insertZone r) s = .next (((if clip then t.raiseNotice .depthClipped else t).reevaluate none).answers
              row r .done [BitVec.ofNat 8 n]))

/-- AMEND ZONE (R7, R9) on a record that exists: the fields replaced, number and suspended flag kept, the
table in start order, DEPTH_CLIPPED raised when clipped, and governance settled with the zone amended. -/
def Obligations.AmendZoneReplacesTheFields : Prop :=
  ∀ (r : Request) (row : RequestRow) (s : State) (z : Zone), s.serves (.amendZone r) row r →
    let n := fieldAt (r.body.take row.size) 0 1
    1 ≤ n → n ≤ 64 → s.findZone n = some z →
    (checkedZone ((r.body.take row.size).drop 1) = none →
      exec (.amendZone r) s = .next (s.refuses row r .outOfRange)) ∧
    ∀ f, checkedZone ((r.body.take row.size).drop 1) = some f →
      ((∃ y ∈ s.plan.zones, y.number ≠ n ∧ y.fields.start < f.stop ∧ f.start < y.fields.stop) →
        exec (.amendZone r) s = .next (s.refuses row r .overlap)) ∧
      ((∀ y ∈ s.plan.zones, y.number ≠ n → ¬(y.fields.start < f.stop ∧ f.start < y.fields.stop)) →
        let clip : Bool := s.maxDepth < f.leftDepth || s.maxDepth < f.rightDepth
        ∃ zs : List Zone, zs.Perm (⟨n, f, z.suspended, clip⟩ :: s.plan.zones.filter (fun y => y.number ≠ n)) ∧
          (s.plan.zones.Pairwise (fun a b => a.fields.start ≤ b.fields.start) →
            zs.Pairwise (fun a b => a.fields.start ≤ b.fields.start)) ∧
          let t : State := { s.popped with plan.zones := zs }
          exec (.amendZone r) s = .next (((if clip then t.raiseNotice .depthClipped else t).reevaluate (some n)).answers
            row r .done []))

/-- SUSPEND ZONE, REINSTATE ZONE, RETIRE ZONE and CLEAR PLAN (R10, R11, R12, R29): the flag set or cleared,
the record or both tables gone, and governance re-evaluated; a flag that already stands changes nothing. -/
def Obligations.ZonesAreSuspendedReinstatedAndRetired : Prop :=
  (∀ (i : Instr) (r : Request) (row : RequestRow) (s : State) (z : Zone) (flag : Bool), s.serves i row r →
    (i = .suspendZone r ∧ flag = true ∨ i = .reinstateZone r ∧ flag = false) →
    let n := fieldAt (r.body.take row.size) 0 1
    1 ≤ n → n ≤ 64 → s.findZone n = some z →
    (z.suspended = flag → exec i s = .next (s.popped.answers row r .done [])) ∧
    (z.suspended ≠ flag → exec i s = .next ((State.reevaluate none { s.popped with
      plan.zones := s.plan.zones.map (fun y => if y.number = n then { y with suspended := flag } else y) }).answers
        row r .done []))) ∧
  (∀ (r : Request) (row : RequestRow) (s : State) (z : Zone), s.serves (.retireZone r) row r →
    let n := fieldAt (r.body.take row.size) 0 1
    1 ≤ n → n ≤ 64 → s.findZone n = some z →
    exec (.retireZone r) s = .next ((State.reevaluate none { s.popped with
      plan.zones := s.plan.zones.filter (fun y => y.number ≠ n) }).answers row r .done [])) ∧
  ∀ (r : Request) (row : RequestRow) (s : State), s.serves (.clearPlan r) row r →
    exec (.clearPlan r) s = .next ((State.reevaluate none { s.popped with
      plan.zones := [], plan.marks := [] }).answers row r .done [])

/-- Re-evaluation (R16, R17, R18) on a table that keeps its law. A zone in force that does not yet govern,
or has just been amended, takes governance: its number, ZONE_ENTERED raised, the bank of its class active, and
the sides as `takeGovernance` leaves them (stated of its own below). With none in force the number becomes none,
the bank stays, and the sides are as `loseGovernance` leaves them. Otherwise nothing changes. -/
def Obligations.ReevaluationSettlesGovernance : Prop :=
  ∀ (s : State) (amended : Option Nat), ZonesOk s →
    (∀ z ∈ s.plan.zones, s.inForce z →
      (s.plan.governing = some z.number → amended ≠ some z.number → s.reevaluate amended = s) ∧
      (s.plan.governing ≠ some z.number ∨ amended = some z.number →
        let t := s.reevaluate amended
        t = s.takeGovernance z ∧
        t.plan = { s.plan with governing := some z.number } ∧
        t.banks = { s.banks with active := if z.fields.material ≤ 2 then .soft else .hard } ∧
        t.notice .zoneEntered = { s.notice .zoneEntered with
          latch := true, count := (s.notice .zoneEntered).count + 1 })) ∧
    ((∀ z ∈ s.plan.zones, ¬ s.inForce z) →
      let t := s.reevaluate amended
      t.plan = { s.plan with governing := none } ∧ t.banks = s.banks ∧
      t.notice .zoneEntered = s.notice .zoneEntered ∧ (s.plan.governing ≠ none → t = s.loseGovernance) ∧
      (s.plan.governing = none → t = s))

/-- The captures (R50), the source switches (R55, R56) and the held slopes (R65) of each side, when
governance is taken by a zone `z` or lost; the demands brought within the new bank's limits (R116, R124). A held slope is
kept where no cross slope is measured (the model's choice, log entry 6). -/
def Obligations.GovernanceReachesTheSides : Prop :=
  ∀ (s : State) (x : Side),
    (∀ z : Zone,
      let d := (s.takeGovernance z).side x
      let b := s.bank (if z.fields.material ≤ 2 then .soft else .hard)
      let depth : Int := match x with | .left => z.fields.leftDepth | .right => z.fields.rightDepth
      let c := (s.side x).context
      d = { s.side x with
        demand := if s.banks.active = (if z.fields.material ≤ 2 then .soft else .hard) then (s.side x).demand
          else if (s.side x).demand < -(b.raiseMax : Int) then -(b.raiseMax : Int)
          else if (b.lowerMax : Int) < (s.side x).demand then b.lowerMax else (s.side x).demand
        context :=
          if (s.side x).state = .auto then { c with
            entryDepth := c.planDepth, entryStation := s.station.station, source := .plan
            heldSlope := if (s.side x).mode = .slope then s.crossSlope.getD c.heldSlope else c.heldSlope }
          else
            let e : Int := match s.measuredDepth x with
              | some m => if m < 0 then 0 else if (s.maxDepth : Int) < m then s.maxDepth else m
              | none => depth
            { c with entryDepth := e, entryStation := s.station.station, planDepth := e } }) ∧
    let c := (s.side x).context
    (s.loseGovernance).side x =
      if (s.side x).state = .auto then { s.side x with context := { c with
        source := .hold
        holdDepth := if c.source = .plan then c.planDepth else c.holdDepth
        heldSlope := if (s.side x).mode = .slope then s.crossSlope.getD c.heldSlope else c.heldSlope } }
      else s.side x

/-! ### Marks (Chapter 1) -/

/-- INSERT MARK, AMEND MARK and RETIRE MARK (R7, R22 to R26): the record in table order with its positions
UNKNOWN or CLEAR and its MARK_AHEAD memory re-armed, under the lowest free number or the one it had. -/
def Obligations.MarksAreStoredAndRetired : Prop :=
  let fresh (n : Nat) (f : MarkFields) : Mark :=
    ⟨n, f, if f.sides = .right then .clear else .unknown, if f.sides = .left then .clear else .unknown,
      ⟨false, false, false⟩⟩
  let inOrder (ms : List Mark) : Prop := ms.Pairwise (fun a b =>
    a.fields.start < b.fields.start ∨ (a.fields.start = b.fields.start ∧ a.number ≤ b.number))
  (∀ (r : Request) (row : RequestRow) (s : State), s.serves (.insertMark r) row r →
    let p := r.body.take row.size
    (checkedMark s.maxDepth p = none → exec (.insertMark r) s = .next (s.refuses row r .outOfRange)) ∧
    ∀ f, checkedMark s.maxDepth p = some f →
      ((∀ n, 1 ≤ n → n ≤ 32 → n ∈ s.plan.marks.map Mark.number) →
        exec (.insertMark r) s = .next (s.refuses row r .tableFull)) ∧
      ∀ n, 1 ≤ n → n ≤ 32 → n ∉ s.plan.marks.map Mark.number →
        (∀ m, 1 ≤ m → m < n → m ∈ s.plan.marks.map Mark.number) →
        ∃ ms : List Mark, ms.Perm (fresh n f :: s.plan.marks) ∧ (inOrder s.plan.marks → inOrder ms) ∧
          exec (.insertMark r) s = .next (({ s.popped with plan.marks := ms } : State).answers row r .done
            [BitVec.ofNat 8 n])) ∧
  (∀ (r : Request) (row : RequestRow) (s : State) (m : Mark), s.serves (.amendMark r) row r →
    let p := r.body.take row.size
    let n := fieldAt p 0 1
    1 ≤ n → n ≤ 32 → s.findMark n = some m →
    (checkedMark s.maxDepth (p.drop 1) = none → exec (.amendMark r) s = .next (s.refuses row r .outOfRange)) ∧
    ∀ f, checkedMark s.maxDepth (p.drop 1) = some f →
      ∃ ms : List Mark, ms.Perm (fresh n f :: s.plan.marks.filter (fun k => k.number ≠ n)) ∧
        (inOrder s.plan.marks → inOrder ms) ∧
        exec (.amendMark r) s = .next (({ s.popped with plan.marks := ms } : State).answers row r .done [])) ∧
  ∀ (r : Request) (row : RequestRow) (s : State) (m : Mark), s.serves (.retireMark r) row r →
    let n := fieldAt (r.body.take row.size) 0 1
    1 ≤ n → n ≤ 32 → s.findMark n = some m →
    exec (.retireMark r) s = .next (({ s.popped with
      plan.marks := s.plan.marks.filter (fun k => k.number ≠ n) } : State).answers row r .done [])

/-- READ ZONE, FIND ZONE and READ MARK (R6, R13, R14, R27) answer from the record, LIST ZONES and LIST MARKS
(R15, R28, R191) with at most twelve entries from the station carried, six in each of at most two segments,
with the number of entries and the count that remains; none of them changes anything else. -/
def Obligations.PlanReadsReportTheRecords : Prop :=
  (∀ (r : Request) (row : RequestRow) (s : State) (z : Zone), s.serves (.readZone r) row r →
    let n := fieldAt (r.body.take row.size) 0 1
    1 ≤ n → n ≤ 64 → s.findZone n = some z →
    let st := s.station.station
    let position : ZonePosition :=
      if s.station.valid = false then .unknown
      else if s.plan.governing = some n then .governing
      else if z.fields.start ≤ st ∧ st < z.fields.stop then .pending
      else if (st < z.fields.start ↔ s.station.sense = .ascending) then .pending else .passed
    exec (.readZone r) s = .next (s.popped.answers row r .done (BitVec.ofNat 8 n :: zoneBytes z.fields ++
      [BitVec.ofNat 8 ((if z.suspended then 1 else 0) + (if z.clipped then 2 else 0)),
        BitVec.ofNat 8 position.code]))) ∧
  (∀ (r : Request) (row : RequestRow) (s : State), s.serves (.findZone r) row r →
    let st := fieldAt (r.body.take row.size) 0 4
    (9999999 < st → exec (.findZone r) s = .next (s.refuses row r .outOfRange)) ∧
    (st ≤ 9999999 → (∀ z ∈ s.plan.zones, ¬(z.fields.start ≤ st ∧ st < z.fields.stop)) →
      exec (.findZone r) s = .next (s.refuses row r .noRecord)) ∧
    (st ≤ 9999999 → ZonesOk s → ∀ z ∈ s.plan.zones, z.fields.start ≤ st → st < z.fields.stop →
      exec (.findZone r) s = .next (s.popped.answers row r .done [BitVec.ofNat 8 z.number]))) ∧
  (∀ (r : Request) (row : RequestRow) (s : State) (m : Mark), s.serves (.readMark r) row r →
    let n := fieldAt (r.body.take row.size) 0 1
    1 ≤ n → n ≤ 32 → s.findMark n = some m →
    exec (.readMark r) s = .next (s.popped.answers row r .done (BitVec.ofNat 8 n :: markBytes m.fields ++
      [BitVec.ofNat 8 m.posLeft.code, BitVec.ofNat 8 m.posRight.code]))) ∧
  ∀ (i : Instr) (r : Request) (row : RequestRow) (s : State), s.serves i row r →
    let st := fieldAt (r.body.take row.size) 0 4
    ∀ entries : List (List Byte),
      (i = .listZones r ∧ entries = (s.plan.zones.dropWhile (fun z => z.fields.stop ≤ st)).map
          (fun z => BitVec.ofNat 8 z.number :: beBytes 4 z.fields.start ++ beBytes 4 z.fields.stop) ∨
        i = .listMarks r ∧ entries = (s.plan.marks.filter (fun m => st ≤ m.fields.start + m.fields.length - 1)).map
          (fun m => BitVec.ofNat 8 m.number :: beBytes 4 m.fields.start ++ beBytes 2 m.fields.length ++
            [BitVec.ofNat 8 m.fields.sides.code])) →
      (9999999 < st → exec i s = .next (s.refuses row r .outOfRange)) ∧
      (st ≤ 9999999 →
        let n := min 12 entries.length
        let head (k : Nat) : List Byte := [BitVec.ofNat 8 k, BitVec.ofNat 8 n, BitVec.ofNat 8 (entries.length - n)]
        exec i s = .next (s.popped.answers row r .done (head 1 ++ (entries.take 6).flatten)
          (if 6 < n then some (head 2 ++ ((entries.take 12).drop 6).flatten) else none)))

/-! ### Geometry and station (Chapter 2) -/

/-- WRITE GEOMETRY (R33, R34, R35): every field replaced, the fixed speed brought to the nearer belt limit,
excess fill moved to spill with SPILL raised, the fill-limit latch re-evaluated and FILL_HIGH with it. -/
def Obligations.WriteGeometryReplacesTheRecord : Prop :=
  ∀ (r : Request) (row : RequestRow) (s : State), s.serves (.writeGeometry r) row r →
    let p := r.body.take row.size
    (checkedGeometry p = none → exec (.writeGeometry r) s = .next (s.refuses row r .outOfRange)) ∧
    ∀ g, checkedGeometry p = some g →
      let c := s.conveyor
      let fill := min c.fill g.housingCapacity
      let latch : Bool :=
        if g.fillHigh * g.housingCapacity / 100 ≤ fill then true
        else if fill ≤ g.fillLow * g.housingCapacity / 100 then false else c.fillLatch
      let t : State := { s.popped with
        station.geometry := g
        conveyor := { c with
          fixedSpeed := if c.fixedSpeed < g.beltMin then g.beltMin
            else if g.beltMax < c.fixedSpeed then g.beltMax else c.fixedSpeed
          fill := fill
          spill := c.spill + (c.fill - g.housingCapacity)
          fillLatch := latch } }
      exec (.writeGeometry r) s = .next (((if g.housingCapacity < c.fill then t.raiseNotice .spill else t).tellCause
        .fillHigh latch).answers row r .done [])

/-- FIX STATION (R43): OUT_OF_RANGE, FIX_TOO_FAR under plan control on a valid station, or the fix taken: S
the value, f 0, VALID, and a change handed to the Plan Store and to STATION_INVALID. SET TRAVEL SENSE (R45):
OUT_OF_RANGE before WRONG_STATE, or the sense set and nothing else. -/
def Obligations.StationRequestsMoveTheStation : Prop :=
  (∀ (r : Request) (row : RequestRow) (s : State), s.serves (.fixStation r) row r →
    let st := fieldAt (r.body.take row.size) 0 4
    let planned : Prop := ∃ x, (s.side x).state = .auto ∧ (s.side x).context.source = .plan
    let far : Prop := st + 200 < s.station.station ∨ s.station.station + 200 < st
    (9999999 < st → exec (.fixStation r) s = .next (s.refuses row r .outOfRange)) ∧
    (st ≤ 9999999 → s.station.valid = true → planned → far →
      exec (.fixStation r) s = .next (s.refuses row r .fixTooFar)) ∧
    (st ≤ 9999999 → ¬(s.station.valid = true ∧ planned ∧ far) →
      let t : State := { s.popped with
        station := { s.station with station := st, fine := 0, valid := true } }
      exec (.fixStation r) s = .next ((if s.station.station = st ∧ s.station.valid = true then t
        else (t.reevaluate none).tellCause .stationInvalid false).answers row r .done []))) ∧
  ∀ (r : Request) (row : RequestRow) (s : State), s.serves (.setTravelSense r) row r →
    let v := fieldAt (r.body.take row.size) 0 1
    let auto : Prop := ∃ x, (s.side x).state = .auto
    (v ≠ 1 → v ≠ 2 → exec (.setTravelSense r) s = .next (s.refuses row r .outOfRange)) ∧
    (v = 1 ∨ v = 2 → auto → exec (.setTravelSense r) s = .next (s.refuses row r .wrongState)) ∧
    (v = 1 ∨ v = 2 → ¬ auto → exec (.setTravelSense r) s = .next (({ s.popped with
      station.sense := if v = 1 then .ascending else .descending } : State).answers row r .done []))

/-- A count of the encoder (R38, R39, R40, R42): forward when ENCA leads; S and f carry, borrow or pin at a
limit with the station INVALID; the window gains the travel; a change of S or of validity is handed on,
every covered mark side UNKNOWN when the station is lost (R23, R41). A station that is INVALID at the upper
limit with f = 0 stands pinned there (the model's reading, log entry 7). A change of both inputs is no count
(R38), and the speed window sets the speed to the accumulator over 100, truncated, and empties it (R42). -/
def Obligations.EncoderCountsAndSpeedWindows : Prop :=
  (∀ (e : EncoderInput) (s : State), s.heldReset = none → StationOk s →
    let c := s.station
    let forward : Prop := match e with | .encA => c.phaseA = c.phaseB | .encB => c.phaseA ≠ c.phaseB
    let pinned : Prop := c.station = 9999999 ∧ c.fine = 0 ∧ c.valid = false
    ∀ travel : Int, (forward → travel = c.geometry.encoderDistance) → (¬ forward → travel = -c.geometry.encoderDistance) →
      let f : Int := c.fine + (if c.sense = .ascending then travel else -travel)
      ∃ (st fine : Nat) (valid : Bool),
        (0 ≤ f → f < 10000 → st = c.station ∧ valid = c.valid ∧ (pinned → fine = 0) ∧
          (¬ pinned → (fine : Int) = f)) ∧
        (10000 ≤ f → c.station < 9999999 → st = c.station + 1 ∧ (fine : Int) = f - 10000 ∧ valid = c.valid) ∧
        (10000 ≤ f → c.station = 9999999 → st = 9999999 ∧ fine = 0 ∧ valid = false) ∧
        (f < 0 → 0 < c.station → st + 1 = c.station ∧ (fine : Int) = f + 10000 ∧ valid = c.valid) ∧
        (f < 0 → c.station = 0 → st = 0 ∧ fine = 0 ∧ valid = false) ∧
        let t : State := { s with station := { c with
          station := st, fine := fine, valid := valid, accum := c.accum + travel
          phaseA := if e = .encA then !c.phaseA else c.phaseA
          phaseB := if e = .encB then !c.phaseB else c.phaseB } }
        let lost : Bool := c.valid && !valid
        let u : State := { t with plan.marks := if lost then s.plan.marks.map (fun m => { m with
          posLeft := if m.fields.covers .left then .unknown else .clear
          posRight := if m.fields.covers .right then .unknown else .clear }) else s.plan.marks }
        exec (.encoderCount e) s = .next (if st = c.station ∧ valid = c.valid then t
          else (u.reevaluate none).tellStationInvalid)) ∧
  ∀ s : State, s.heldReset = none →
    exec .encoderDoubleStep s = .next { s with
      station.phaseA := !s.station.phaseA, station.phaseB := !s.station.phaseB } ∧
    ∃ v : Int, 100 * v.natAbs ≤ s.station.accum.natAbs ∧ s.station.accum.natAbs < 100 * (v.natAbs + 1) ∧
      (0 < v → 0 < s.station.accum) ∧ (v < 0 → s.station.accum < 0) ∧
      exec .speedWindowExpiry s = .next { s with
        station.speed := v, station.accum := 0, timers.speedWindow := 100 }

/-! ### Channels and roles (Chapter 4) -/

/-- CONFIGURE CHANNEL and CLEAR CHANNEL (R81, R82): the tests in their order; then the record as the
request gives it, ABSENT and without a reading, its zero reference kept only for the same kind and
polarity; or the record emptied with its role; and SENSOR_LOST re-evaluated. -/
def Obligations.ChannelsAreConfiguredAndCleared : Prop :=
  (∀ (r : Request) (row : RequestRow) (s : State), s.serves (.configureChannel r) row r →
    let p := r.body.take row.size
    let address := fieldAt p 1 1
    let timeout := fieldAt p 4 1
    let fair : Prop := fieldAt p 0 1 < 8 ∧ 1 ≤ address ∧ address ≤ 63 ∧ 1 ≤ timeout ∧ timeout ≤ 40
    (¬ fair ∨ kindOf (fieldAt p 2 1) (fieldAt p 3 1) = none →
      exec (.configureChannel r) s = .next (s.refuses row r .outOfRange)) ∧
    (∀ (n : Fin 8) (kind : Kind), fair → n.val = fieldAt p 0 1 →
      kindOf (fieldAt p 2 1) (fieldAt p 3 1) = some kind →
      let old := s.channel n
      let inUse : Prop := ∃ q, s.roleHeld n = some q ∧ s.roleInUse q = true
      let unfit : Prop := ∃ q, s.roleHeld n = some q ∧ q.admits kind = false
      let shared : Prop := ∃ k : Fin 8, k ≠ n ∧ ∃ g ∈ (s.channel k).config, g.address = address
      (inUse → exec (.configureChannel r) s = .next (s.refuses row r .wrongState)) ∧
      (¬ inUse → unfit → exec (.configureChannel r) s = .next (s.refuses row r .outOfRange)) ∧
      (¬ inUse → ¬ unfit → shared → exec (.configureChannel r) s = .next (s.refuses row r .duplicateAddress)) ∧
      (¬ inUse → ¬ unfit → ¬ shared →
        let same : Prop := (∃ g ∈ old.config, g.kind = kind) ∧ kind.isGrade = true
        ∃ zero, (same → zero = old.zero) ∧ (¬ same → zero = none) ∧
          exec (.configureChannel r) s = .next (((s.popped.setChannel n
            ⟨some ⟨address, kind, timeout⟩, zero, .absent, none, none, false, none⟩).tellSensorLost).answers
              row r .done [])))) ∧
  ∀ (r : Request) (row : RequestRow) (s : State), s.serves (.clearChannel r) row r →
    let n := fieldAt (r.body.take row.size) 0 1
    (8 ≤ n → exec (.clearChannel r) s = .next (s.refuses row r .outOfRange)) ∧
    ∀ k : Fin 8, k.val = n →
      let role := s.roleHeld k
      ((∃ q, role = some q ∧ s.roleInUse q = true) →
        exec (.clearChannel r) s = .next (s.refuses row r .wrongState)) ∧
      (¬(∃ q, role = some q ∧ s.roleInUse q = true) →
        ((s.channel k).config = none → exec (.clearChannel r) s = .next (s.popped.answers row r .done [])) ∧
        ((s.channel k).config ≠ none →
          let t : State := match role with | some q => s.popped.setRole q none | none => s.popped
          exec (.clearChannel r) s = .next (((t.setChannel k emptyChannel).tellSensorLost).answers row r .done [])))

/-- ASSIGN ROLE (R85, R86, R88): the tests in their order; a role not in use takes the channel or none; a
CROSS_SLOPE in use moves to a LIVE channel and restarts the settle sequence of the side that uses it. -/
def Obligations.RolesAreAssigned : Prop :=
  ∀ (r : Request) (row : RequestRow) (s : State), s.serves (.assignRole r) row r →
    let p := r.body.take row.size
    (roleOf (fieldAt p 0 1) = none ∨ (8 ≤ fieldAt p 1 1 ∧ fieldAt p 1 1 ≠ 255) →
      exec (.assignRole r) s = .next (s.refuses row r .outOfRange)) ∧
    ∀ (q : Role) (v : Option (Fin 8)), roleOf (fieldAt p 0 1) = some q →
      fieldAt p 1 1 = (match v with | some n => n.val | none => 255) →
      let unfit : Prop := ∃ n ∈ v, (s.channel n).config = none ∨ (∃ g ∈ (s.channel n).config, q.admits g.kind = false) ∨
        ∃ q', s.roleHeld n = some q' ∧ q' ≠ q
      (unfit → exec (.assignRole r) s = .next (s.refuses row r .outOfRange)) ∧
      (¬ unfit → s.monitor.roles.get q = v → exec (.assignRole r) s = .next (s.popped.answers row r .done [])) ∧
      (¬ unfit → s.monitor.roles.get q ≠ v →
        (s.roleInUse q = false →
          exec (.assignRole r) s = .next (((s.popped.setRole q v).tellSensorLost).answers row r .done [])) ∧
        (s.roleInUse q = true →
          (q = .drumLoad ∨ (q = .leftGrade ∧ s.left.state = .referencing) ∨
              (q = .rightGrade ∧ s.right.state = .referencing) ∨ v = none →
            exec (.assignRole r) s = .next (s.refuses row r .wrongState)) ∧
          (∀ n ∈ v, q ≠ .drumLoad → (q = .leftGrade → s.left.state ≠ .referencing) →
            (q = .rightGrade → s.right.state ≠ .referencing) → (s.channel n).health ≠ .live →
            exec (.assignRole r) s = .next (s.refuses row r .notLive)) ∧
          (∀ n ∈ v, q = .crossSlope → (s.channel n).health = .live → ∃ t u : State,
            t = s.popped.setRole .crossSlope (some n) ∧
            u = { t with
              left := if s.left.mode = .slope ∧ s.left.state = .auto then (t.restartSettle .left).left else s.left
              right := if s.right.mode = .slope ∧ s.right.state = .auto then (t.restartSettle .right).right else s.right } ∧
            exec (.assignRole r) s = .next (u.tellSensorLost.answers row r .done []))))

/-- The bumpless transfer (R87): a grade role moved in AUTO to a LIVE channel rebases that channel, so that
the side's measured depth does not step; the settle sequence restarts and every other record stands. -/
def Obligations.BumplessTransferKeepsTheDepth : Prop :=
  ∀ (r : Request) (row : RequestRow) (s : State) (x : Side) (n : Fin 8) (d v : Int),
    s.serves (.assignRole r) row r →
    let p := r.body.take row.size
    fieldAt p 0 1 = (match x with | .left => 1 | .right => 2) → fieldAt p 1 1 = n.val →
    (s.side x).state = .auto → s.measuredDepth x = some d → s.monitor.roles.get (gradeRole x) ≠ some n →
    s.roleHeld n = none → (∃ g ∈ (s.channel n).config, g.kind.isGrade = true) →
    (s.channel n).health = .live → (s.channel n).value = some v →
    ∃ t, exec (.assignRole r) s = .next t ∧ t.measuredDepth x = some d ∧
      t.monitor.roles = s.monitor.roles.set (gradeRole x) (some n) ∧
      t.channel n = { s.channel n with zero := some (v + d * (s.channel n).sign) } ∧
      (∀ k, k ≠ n → t.channel k = s.channel k) ∧
      t.side x = { s.side x with settle := s.activeBank.firstStep s.station.speed [0, 1, 2] } ∧
      t.side (otherSide x) = s.side (otherSide x) ∧ t.plan = s.plan ∧ t.station = s.station ∧ t.banks = s.banks ∧
      t.governor = s.governor ∧ t.conveyor = s.conveyor ∧ t.timers = s.timers

/-- SET ZERO (R91, R199): the tests in their order, or the grade channel's zero reference set so that it
reports the depth carried; nothing else changes. That a byte naming no side is judged first is the model's
reading (log entry 10). -/
def Obligations.SetZeroReferencesTheChannel : Prop :=
  ∀ (r : Request) (row : RequestRow) (s : State), s.serves (.setZero r) row r →
    let p := r.body.take row.size
    let depth := signedAt p 1 2
    (fieldAt p 0 1 ≠ 1 → fieldAt p 0 1 ≠ 2 → exec (.setZero r) s = .next (s.refuses row r .outOfRange)) ∧
    ∀ x : Side, fieldAt p 0 1 = (match x with | .left => 1 | .right => 2) →
      let busy : Prop := (s.side x).state = .auto ∨ (s.side x).state = .referencing
      let role := s.monitor.roles.get (gradeRole x)
      let outside : Prop := depth < -500 ∨ 5000 < depth ∨ role = none
      (busy → exec (.setZero r) s = .next (s.refuses row r .wrongState)) ∧
      (¬ busy → outside → exec (.setZero r) s = .next (s.refuses row r .outOfRange)) ∧
      (¬ busy → ¬ outside → ∀ n, role = some n →
        ((s.channel n).health ≠ .live → exec (.setZero r) s = .next (s.refuses row r .notLive)) ∧
        (∀ v, (s.channel n).health = .live → (s.channel n).value = some v →
          let sign : Int := match (s.channel n).config with
            | some ⟨_, .sonic .minus, _⟩ => -1
            | some ⟨_, .rope .minus, _⟩ => -1
            | _ => 1
          exec (.setZero r) s = .next ((s.popped.setChannel n
            { s.channel n with zero := some (v + depth * sign) }).answers row r .done [])))

/-- A frame of the sensor link (R75, R195): one that is no reading message, or whose address no configured
channel has, changes nothing; a reading is stored and judged, restarts the freshness timer, and a change
of health or of the drum engaged flag is handed on (R77). A timer that runs out makes the channel STALE
(R76); with a stopped timer the expiry cannot occur (the model's reading, log entry 3). -/
def Obligations.ReadingsAndExpiriesSetHealth : Prop :=
  (∀ (f : CanFrame) (s : State), s.heldReset = none →
    let reading : Prop := f.extended = false ∧ f.remote = false ∧ f.fd = false ∧ 3 ≤ f.data.length ∧
      0x501 ≤ f.ident ∧ f.ident ≤ 0x53F
    let address := f.ident - 0x500
    (¬ reading ∨ (∀ n, ∀ g ∈ (s.channel n).config, g.address ≠ address) → exec (.readingMessage f) s = .next s) ∧
    (reading → s.addressesDistinct → ∀ (n : Fin 8) (g : ChannelConfig), (s.channel n).config = some g →
      g.address = address →
      let v := signedAt f.data 0 2
      let status := f.data.getD 2 0
      let accepted : Prop := g.kind.inRange v = true ∧ (status = 0 ∨ (status = 1 ∧ g.kind = .load))
      let c := s.channel n
      ∃ c' : Channel,
        (accepted → c' = { c with
          value := some v, health := .live, status := some status, timer := some (g.timeout * 50)
          engaged := if g.kind = .load then decide (status = 0) else c.engaged }) ∧
        (¬ accepted → c' = { c with
          health := .rejected, status := some status, timer := some (g.timeout * 50) }) ∧
        exec (.readingMessage f) s = .next ((s.setChannel n c').handOver n c))) ∧
  ∀ (n : Fin 8) (s : State), s.heldReset = none →
    ((s.channel n).timer = none → exec (.freshnessExpiry n) s = .next s) ∧
    ((s.channel n).timer ≠ none → exec (.freshnessExpiry n) s = .next ((s.setChannel n
      { s.channel n with health := .stale, timer := none }).handOver n (s.channel n)))

/-- What the Side Loops do with a change of a channel (R77, R105, R106, R112): in AUTO a side freezes when
its grade channel, or in SLOPE mode the CROSS_SLOPE channel, leaves LIVE; in REFERENCING it fails when its
grade or load channel leaves LIVE or the drum disengages. No other state is moved, and every mark is as the sides
that freeze leave it (R57), its positions and all else of it standing. -/
def Obligations.HandOversFreezeAndFail : Prop :=
  ∀ (n : Fin 8) (old : Channel) (s : State) (x : Side), ChannelsOk s →
    let now := s.channel n
    let lost : Prop := old.health = .live ∧ now.health ≠ .live
    let idle : Prop := old.engaged = true ∧ now.engaged = false
    let grade : Prop := s.monitor.roles.get (gradeRole x) = some n
    let load : Prop := s.monitor.roles.get .drumLoad = some n
    let freezes (y : Side) : Prop := (s.side y).state = .auto ∧ lost ∧
      (s.monitor.roles.get (gradeRole y) = some n ∨
        s.monitor.roles.get .crossSlope = some n ∧ (s.side y).mode = .slope)
    let fails : Prop := (s.side x).state = .referencing ∧ ((lost ∧ grade) ∨ ((lost ∨ idle) ∧ load))
    let d := s.side x
    let t := s.handOver n old
    (freezes x → t.side x = { d with
      state := .frozen, demand := 0, settle := .abandoned
      context := { d.context with override := none, offer := none } }) ∧
    (fails → t.side x = { d with state := .idle, demand := 0, referencing := none } ∧
      (t.notice .referenceFailed).latch = true) ∧
    (¬ freezes x → ¬ fails → t.side x = d) ∧
    (∀ l r : Bool, (l = true ↔ freezes .left) → (r = true ↔ freezes .right) →
      t.plan = { s.plan with marks := s.plan.marks.map (fun m =>
        let m₁ := if l then m.leftBy .left else m
        if r then m₁.leftBy .right else m₁) }) ∧
    t.monitor = s.monitor ∧ t.station = s.station ∧ t.banks = s.banks ∧ t.governor = s.governor ∧
    t.conveyor = s.conveyor ∧ t.link = s.link ∧ t.sensorLink = s.sensorLink ∧ t.timers = s.timers ∧
    t.heldReset = s.heldReset

/-- The converted quantities (R78, R79): the depth of a grade channel is valid while it is LIVE and holds a zero
reference, the difference times its polarity brought within −500..5000; the other quantities are the last value,
valid while LIVE; and a side or the part has each through the role's channel alone. READ GEOMETRY, READ STATION,
READ CHANNEL, READ ROLES and READ BANK (R36, R46, R83, R89, R129, R199) report the records as section 10.6 lays
them out, and change nothing. -/
def Obligations.MachineReadsReportTheRecords : Prop :=
  (∀ c : Channel,
    let polarity : Option Int := match c.config with
      | some ⟨_, .sonic .plus, _⟩ => some 1
      | some ⟨_, .rope .plus, _⟩ => some 1
      | some ⟨_, .sonic .minus, _⟩ => some (-1)
      | some ⟨_, .rope .minus, _⟩ => some (-1)
      | _ => none
    (∀ sign z v, polarity = some sign → c.health = .live → c.zero = some z → c.value = some v →
      let d := (z - v) * sign
      c.depth = some (if d < -500 then -500 else if 5000 < d then 5000 else d)) ∧
    (polarity = none ∨ c.health ≠ .live ∨ c.zero = none ∨ c.value = none → c.depth = none)) ∧
  (∀ s : State,
    (∀ x, s.measuredDepth x = match s.monitor.roles.get (match x with | .left => .leftGrade | .right => .rightGrade) with
      | some n => (s.channel n).depth
      | none => none) ∧
    let quantity (q : Role) : Option Int := match s.monitor.roles.get q with
      | some n => if (s.channel n).health = .live then (s.channel n).value else none
      | none => none
    s.crossSlope = quantity .crossSlope ∧ s.drumLoad = quantity .drumLoad ∧ s.beltPressure = quantity .beltPressure) ∧
  ∀ (i : Instr) (r : Request) (row : RequestRow) (s : State), s.serves i row r →
    let p := r.body.take row.size
    (i = .readGeometry r → exec i s = .next (s.popped.answers row r .done
      (geometryBytes s.station.geometry ++ BitVec.ofNat 8 s.station.drumClass.val ::
        beBytes 2 (Config.drumWidth s.station.drumClass) ++ beBytes 2 (Config.drumRadius s.station.drumClass) ++
        beBytes 2 (Config.drumMax s.station.drumClass)))) ∧
    (i = .readStation r → exec i s = .next (s.popped.answers row r .done
      (beBytes 4 s.station.station ++ beBytes 2 s.station.fine ++
        [if s.station.valid then 1 else 0, if s.station.sense = .ascending then 1 else 2] ++
        intBytes 2 (if s.station.speed < -32768 then -32768 else if 32767 < s.station.speed then 32767
          else s.station.speed)))) ∧
    (i = .readChannel r → (8 ≤ fieldAt p 0 1 → exec i s = .next (s.refuses row r .outOfRange)) ∧
      ∀ n : Fin 8, n.val = fieldAt p 0 1 →
        let c := s.channel n
        let grade : Bool := s.roleHeld n = some .leftGrade || s.roleHeld n = some .rightGrade
        exec i s = .next (s.popped.answers row r .done
          ((match c.config with
            | some g => [1, BitVec.ofNat 8 g.address, BitVec.ofNat 8 g.kind.code, BitVec.ofNat 8 g.timeout,
                match g.kind with
                | .sonic .plus => 1
                | .rope .plus => 1
                | .sonic .minus => 255
                | .rope .minus => 255
                | _ => 0]
            | none => [0, 0, 0, 0, 0]) ++
          presentBytes 4 c.zero ++ BitVec.ofNat 8 c.health.code :: presentBytes 2 c.value ++
          (match c.status with | some b => [1, b] | none => [0, 0]) ++
          [if c.engaged then 1 else 0, match s.roleHeld n with | some q => BitVec.ofNat 8 q.code | none => 0] ++
          presentBytes 2 (if grade then c.depth else none)))) ∧
    (i = .readRoles r →
      let entry (q : Role) : List Byte := match s.monitor.roles.get q with
        | some n => [BitVec.ofNat 8 n.val, BitVec.ofNat 8 (s.channel n).health.code,
            if (q = .leftGrade ∨ q = .rightGrade) ∧ (s.channel n).zero ≠ none then 1 else 0]
        | none => [255, 0, 0]
      exec i s = .next (s.popped.answers row r .done (entry .leftGrade ++ entry .rightGrade ++ entry .crossSlope ++
        entry .drumLoad ++ entry .beltPressure))) ∧
    (i = .readBank r → (fieldAt p 0 1 ≠ 1 → fieldAt p 0 1 ≠ 2 → exec i s = .next (s.refuses row r .outOfRange)) ∧
      ∀ b : BankName, fieldAt p 0 1 = (match b with | .soft => 1 | .hard => 2) →
        exec i s = .next (s.popped.answers row r .done (bankBytes (s.bank b) ++ [if s.banks.active = b then 1 else 0])))

/-! ### The Side Loops (Chapters 3, 5 and 6) -/

/-- ENGAGE (R54, R99, R100): the tests in their order, or the side in AUTO with its context set up from the
measured depth `m`: under PLAN with an entry capture when a zone governs, under HOLD when none does; the lease
ended, the held demand kept, the settle sequence restarted, and the three causes re-evaluated. (A held slope
is kept where no cross slope is measured: the model's choice, log entry 6.) -/
def Obligations.EngageEntersAuto : Prop :=
  ∀ (r : Request) (row : RequestRow) (s : State), s.serves (.engage r) row r →
    let v := fieldAt (r.body.take row.size) 0 1
    (v ≠ 1 → v ≠ 2 → exec (.engage r) s = .next (s.refuses row r .outOfRange)) ∧
    ∀ x : Side, v = (match x with | .left => 1 | .right => 2) →
      let d := s.side x
      let sloped : Prop := d.mode = .slope → s.holdsLive .crossSlope
      let free : Prop := d.state ≠ .referencing ∧ d.state ≠ .auto
      (d.state = .referencing → exec (.engage r) s = .next (s.refuses row r .wrongState)) ∧
      (d.state = .auto → exec (.engage r) s = .next (s.popped.answers row r .done [])) ∧
      (free → s.isReferenced x = false → exec (.engage r) s = .next (s.refuses row r .unreferenced)) ∧
      (free → s.isReferenced x = true → ¬(s.holdsLive (gradeRole x) ∧ sloped) →
        exec (.engage r) s = .next (s.refuses row r .notLive)) ∧
      (free → s.isReferenced x = true → s.holdsLive (gradeRole x) → sloped →
        ∀ m, s.measuredDepth x = some m →
          let depth : Int := if m < 0 then 0 else if (s.maxDepth : Int) < m then s.maxDepth else m
          let c : PlanContext := { d.context with
            planDepth := depth, override := none, offer := none
            heldSlope := if d.mode = .slope then s.crossSlope.getD d.context.heldSlope else d.context.heldSlope }
          let planned : Prop := s.station.valid = true ∧ s.governingZone ≠ none
          ∃ c' : PlanContext,
            (planned → c' = { c with source := .plan, entryDepth := depth, entryStation := s.station.station }) ∧
            (¬ planned → c' = { c with source := .hold, holdDepth := depth }) ∧
            exec (.engage r) s = .next ((s.popped.setSide x { d with
              state := .auto, lease := none, context := c'
              settle := s.activeBank.firstStep s.station.speed [0, 1, 2] }).tellPlanGap.tellStationInvalid.tellSideFrozen.answers
                row r .done []))

/-- A side enters AUTO only by an ENGAGE that names it (R100). -/
def Obligations.OnlyEngageEntersAuto : Prop :=
  ∀ (i : Instr) (s t : State) (x : Side), exec i s = .next t → (s.side x).state ≠ .auto →
    (t.side x).state = .auto →
    ∃ r row, requestRow i = some (row, r) ∧ i = .engage r ∧
      fieldAt (r.body.take row.size) 0 1 = (match x with | .left => 1 | .right => 2)

/-- A ground panel's request leaves the other side, the zones, the governing-zone number, the station, the
banks, the governor, the conveyor, the roles and its own side's mode as they are (R189), whatever it asks for
and whether or not it is taken. -/
def Obligations.PanelsReachTheirOwnSideOnly : Prop :=
  ∀ (i : Instr) (row : RequestRow) (r : Request) (s t : State) (x : Side), requestRow i = some (row, r) →
    r.requester = (match x with | .left => .leftPanel | .right => .rightPanel) → exec i s = .next t →
    t.side (otherSide x) = s.side (otherSide x) ∧ t.plan.zones = s.plan.zones ∧ t.plan.governing = s.plan.governing ∧
    t.station = s.station ∧ t.banks = s.banks ∧ t.governor = s.governor ∧ t.conveyor = s.conveyor ∧ t.timers = s.timers ∧
    t.monitor.roles = s.monitor.roles ∧ (s.side x).mode = (t.side x).mode

/-- DISENGAGE (R57, R101, R102): taken in every state, it leaves the side IDLE with a demand of 0, no lease
and no referencing; from AUTO the settle sequence, the override and the offer go, the marks lose the side's inside
flag and those inside on no side stand re-armed, and from IDLE nothing changes. The other side, its inside flags, the
held positions, the plan's zones and the channels stand. -/
def Obligations.DisengageStopsTheSide : Prop :=
  ∀ (r : Request) (row : RequestRow) (s : State), s.serves (.disengage r) row r →
    let v := fieldAt (r.body.take row.size) 0 1
    (v ≠ 1 → v ≠ 2 → exec (.disengage r) s = .next (s.refuses row r .outOfRange)) ∧
    ∀ x : Side, v = (match x with | .left => 1 | .right => 2) → s.sideOk x →
      let d := s.side x
      (d.state = .idle → exec (.disengage r) s = .next (s.popped.answers row r .done [])) ∧
      ∃ t : State, exec (.disengage r) s = .next (t.answers row r .done []) ∧
        (d.state ≠ .idle → t.side x = { d with
          state := .idle, demand := 0, lease := none, referencing := none, settle := .abandoned
          context := { d.context with override := none, offer := none } }) ∧
        t.side (otherSide x) = s.side (otherSide x) ∧ t.monitor = s.monitor ∧ t.station = s.station ∧
        t.banks = s.banks ∧ t.governor = s.governor ∧ t.conveyor = s.conveyor ∧ t.link = s.popped.link ∧
        t.sensorLink = s.sensorLink ∧ t.timers = s.timers ∧ t.heldReset = s.heldReset ∧
        t.plan = (if d.state = .auto then { s.plan with marks := s.plan.marks.map (Mark.leftBy x) } else s.plan)

/-- JOG (R57, R101, R103) and the lease's end (R104): taken in every state, it leaves the side in MANUAL
with a lease of 250 ms afresh and the held demand kept; from AUTO the marks lose the side's inside flag and those
inside on no side stand re-armed, the rest of every mark standing; the lease's expiry keeps MANUAL and sets the
demand to 0; with no lease there is none to expire (the model's reading, log entry 3). -/
def Obligations.JogGrantsALease : Prop :=
  (∀ (r : Request) (row : RequestRow) (s : State), s.serves (.jog r) row r →
    let p := r.body.take row.size
    let v := fieldAt p 0 1
    let w := fieldAt p 1 1
    (v ≠ 1 ∧ v ≠ 2 ∨ w ≠ 1 ∧ w ≠ 2 → exec (.jog r) s = .next (s.refuses row r .outOfRange)) ∧
    ∀ x : Side, v = (match x with | .left => 1 | .right => 2) → w = 1 ∨ w = 2 → s.sideOk x →
      let d := s.side x
      ∃ t : State, exec (.jog r) s = .next (t.answers row r .done []) ∧
        t.side x = { d with
          state := .manual, lease := some ⟨if w = 1 then .raise else .lower, 250⟩, referencing := none
          settle := .abandoned, context := { d.context with override := none, offer := none } } ∧
        t.side (otherSide x) = s.side (otherSide x) ∧ t.monitor = s.monitor ∧ t.station = s.station ∧
        t.banks = s.banks ∧ t.governor = s.governor ∧ t.conveyor = s.conveyor ∧ t.link = s.popped.link ∧
        t.sensorLink = s.sensorLink ∧ t.timers = s.timers ∧ t.heldReset = s.heldReset ∧
        t.plan = (if d.state = .auto then { s.plan with marks := s.plan.marks.map (Mark.leftBy x) } else s.plan)) ∧
  ∀ (x : Side) (s : State), s.heldReset = none →
    ((s.side x).lease = none → exec (.jogLeaseExpiry x) s = .next s) ∧
    ((s.side x).lease ≠ none →
      exec (.jogLeaseExpiry x) s = .next (s.setSide x { s.side x with lease := none, demand := 0 }))

/-- REFERENCE (R109, R110): the tests in their order, or the side in REFERENCING with the idle load and the
starting reading captured, its lease ended and its demand kept; nothing else changes. -/
def Obligations.ReferenceCapturesTheIdleLoad : Prop :=
  ∀ (r : Request) (row : RequestRow) (s : State), s.serves (.reference r) row r →
    let v := fieldAt (r.body.take row.size) 0 1
    (v ≠ 1 → v ≠ 2 → exec (.reference r) s = .next (s.refuses row r .outOfRange)) ∧
    ∀ x : Side, v = (match x with | .left => 1 | .right => 2) →
      let d := s.side x
      let grade := s.monitor.roles.get (gradeRole x)
      let load := s.monitor.roles.get .drumLoad
      let free : Prop := d.state = .idle ∨ d.state = .manual
      (¬ free → exec (.reference r) s = .next (s.refuses row r .wrongState)) ∧
      (free → grade = none → exec (.reference r) s = .next (s.refuses row r .outOfRange)) ∧
      (free → ∀ n, grade = some n →
        ((s.channel n).health ≠ .live → exec (.reference r) s = .next (s.refuses row r .notLive)) ∧
        ((s.channel n).health = .live → load = none → exec (.reference r) s = .next (s.refuses row r .outOfRange)) ∧
        ((s.channel n).health = .live → ∀ k, load = some k →
          (¬((s.channel k).health = .live ∧ (s.channel k).engaged = true) →
            exec (.reference r) s = .next (s.refuses row r .drumIdle)) ∧
          (∀ a b, (s.channel k).health = .live → (s.channel k).engaged = true → (s.channel k).value = some a →
            (s.channel n).value = some b →
            exec (.reference r) s = .next ((s.popped.setSide x { d with
              state := .referencing, lease := none, referencing := some ⟨a, b⟩ }).answers row r .done []))))

/-- SET SIDE MODE (R107) and SET TRIM (R108): the tests of the mode in their order, the mode or nothing
written; the trim brought within its range, answered DONE or CLAMPED with the value stored. -/
def Obligations.ModeAndTrimAreSet : Prop :=
  (∀ (r : Request) (row : RequestRow) (s : State), s.serves (.setSideMode r) row r →
    let p := r.body.take row.size
    let v := fieldAt p 0 1
    let w := fieldAt p 1 1
    (v ≠ 1 ∧ v ≠ 2 ∨ w ≠ 1 ∧ w ≠ 2 → exec (.setSideMode r) s = .next (s.refuses row r .outOfRange)) ∧
    ∀ (x : Side) (m : Mode), v = (match x with | .left => 1 | .right => 2) →
      w = (match m with | .grade => 1 | .slope => 2) →
      let d := s.side x
      let busy : Prop := d.state = .auto ∨ d.state = .referencing
      let both : Prop := m = .slope ∧ (s.side (otherSide x)).mode = .slope
      let noSlope : Prop := m = .slope ∧ s.monitor.roles.get .crossSlope = none
      (busy → exec (.setSideMode r) s = .next (s.refuses row r .wrongState)) ∧
      (¬ busy → m = d.mode → exec (.setSideMode r) s = .next (s.popped.answers row r .done [])) ∧
      (¬ busy → m ≠ d.mode → both → exec (.setSideMode r) s = .next (s.refuses row r .wrongState)) ∧
      (¬ busy → m ≠ d.mode → ¬ both → noSlope → exec (.setSideMode r) s = .next (s.refuses row r .outOfRange)) ∧
      (¬ busy → m ≠ d.mode → ¬ both → ¬ noSlope →
        exec (.setSideMode r) s = .next ((s.popped.setSide x { d with mode := m }).answers row r .done []))) ∧
  ∀ (r : Request) (row : RequestRow) (s : State), s.serves (.setTrim r) row r →
    let p := r.body.take row.size
    let carried := signedAt p 1 2
    (fieldAt p 0 1 ≠ 1 → fieldAt p 0 1 ≠ 2 → exec (.setTrim r) s = .next (s.refuses row r .outOfRange)) ∧
    ∀ x : Side, fieldAt p 0 1 = (match x with | .left => 1 | .right => 2) →
      let out (trim : Int) (status : Status) : Answer :=
        .next ((s.popped.setSide x { s.side x with trim := trim }).answers row r status (intBytes 2 trim))
      (-200 ≤ carried → carried ≤ 200 → exec (.setTrim r) s = out carried .done) ∧
      (carried < -200 → exec (.setTrim r) s = out (-200) .clamped) ∧
      (200 < carried → exec (.setTrim r) s = out 200 .clamped)

/-- The side interval out of AUTO, its timer starting its next period (R92, R97, R103, R110, R111, R112, R115): IDLE, FROZEN and MANUAL without
a lease change nothing; a lease and the referencing form a demand from their fixed command; a touch sets
the zero reference and goes to MANUAL, and too much travel fails. -/
def Obligations.SideIntervalsOutOfAuto : Prop :=
  ∀ (x : Side) (s : State), s.heldReset = none →
    let d := s.side x
    let next (t : State) : Answer := .next { t with timers := match x with
      | .left => { t.timers with leftSide := 20 }
      | .right => { t.timers with rightSide := 20 } }
    let g := s.station.geometry
    let b := s.activeBank
    let formed (u : Int) : Int :=
      let v := if u < -(b.raiseMax : Int) then -(b.raiseMax : Int) else if (b.lowerMax : Int) < u then b.lowerMax else u
      if (b.slewStep : Int) < v - d.demand then d.demand + b.slewStep
      else if (b.slewStep : Int) < d.demand - v then d.demand - b.slewStep else v
    (d.state = .idle ∨ d.state = .frozen ∨ (d.state = .manual ∧ d.lease = none) →
      exec (.sideIntervalExpiry x) s = next s) ∧
    (d.state = .manual → ∀ l, d.lease = some l →
      exec (.sideIntervalExpiry x) s = next (s.setSide x { d with
        demand := formed (match l.direction with | .lower => g.jogRate | .raise => -(g.jogRate : Int)) })) ∧
    (d.state = .referencing → ∀ cap n k load reading, d.referencing = some cap →
      s.monitor.roles.get (gradeRole x) = some n → s.monitor.roles.get .drumLoad = some k →
      (s.channel k).value = some load → (s.channel n).value = some reading →
      let touch : Prop := cap.idleLoad + g.touchDelta ≤ load
      let travelled : Prop := g.referenceTravel ≤ (reading - cap.startReading).natAbs
      (touch → exec (.sideIntervalExpiry x) s = next (((s.setChannel n
        { s.channel n with zero := some reading }).setSide x { d with
          state := .manual, demand := 0, lease := none, referencing := none }).raiseNotice .referenceDone)) ∧
      (¬ touch → travelled → exec (.sideIntervalExpiry x) s = next ((s.setSide x { d with
        state := .idle, demand := 0, referencing := none }).raiseNotice .referenceFailed)) ∧
      (¬ touch → ¬ travelled →
        exec (.sideIntervalExpiry x) s = next (s.setSide x { d with demand := formed g.referenceRate })))

/-- The side interval in AUTO (R113, R114, R115, R132, R133): the error against the target just computed,
past the dead band, times the gain of the step in force, clamped and slewed; then the settle count, and a
restart when the computation began or ended an override. Of the side's plan context the computation records its own
results (R49) and nothing else: the source, the entry capture, the hold depth and the held slope stand. The
other side and the rest stand. -/
def Obligations.SideIntervalsInAuto : Prop :=
  ∀ (x : Side) (s : State) (m : Int), s.heldReset = none → (s.side x).state = .auto →
    s.measuredDepth x = some m → (s.side x).settle ≠ .abandoned →
    let d := s.side x
    let b := s.activeBank
    let restarted (t : IntervalTimers) : IntervalTimers := match x with
      | .left => { t with leftSide := 20 }
      | .right => { t with rightSide := 20 }
    ∃ t, exec (.sideIntervalExpiry x) s = .next t ∧
      (t.side x).state = .auto ∧ (t.side x).mode = d.mode ∧ (t.side x).trim = d.trim ∧ (t.side x).lease = d.lease ∧
      (t.side x).referencing = d.referencing ∧
      (t.side x).context.source = d.context.source ∧ (t.side x).context.entryDepth = d.context.entryDepth ∧
      (t.side x).context.entryStation = d.context.entryStation ∧
      (t.side x).context.holdDepth = d.context.holdDepth ∧ (t.side x).context.heldSlope = d.context.heldSlope ∧
      t.side (otherSide x) = s.side (otherSide x) ∧ t.station = s.station ∧ t.monitor = s.monitor ∧
      t.banks = s.banks ∧ t.governor = s.governor ∧ t.conveyor = s.conveyor ∧ t.link = s.link ∧
      t.sensorLink = s.sensorLink ∧ t.timers = restarted s.timers ∧ t.heldReset = s.heldReset ∧
      t.plan.zones = s.plan.zones ∧ t.plan.governing = s.plan.governing ∧
      t.plan.marks.map Mark.number = s.plan.marks.map Mark.number ∧
      t.plan.marks.map Mark.fields = s.plan.marks.map Mark.fields ∧
      (∀ n : Notice, n ≠ .markAhead → t.notice n = s.notice n) ∧
      (let c := (t.side x).context
      ∀ e : Int,
        (c.basis = .depth → e = c.depthTarget - m) →
        (c.basis = .slope → ∀ v, s.crossSlope = some v →
          let h := ((c.slopeTarget - v) * (Config.drumWidth s.station.drumClass : Int)).tdiv 1000
          e = match x with | .right => h | .left => -h) →
        (c.basis = .slope → s.crossSlope ≠ none) →
        let past : Int := if (b.deadBand : Int) < e then e - b.deadBand
          else if e < -(b.deadBand : Int) then e + b.deadBand else 0
        let gain : Nat := match d.settle with
          | .settling 0 _ => b.k0
          | .settling 1 _ => b.k1
          | .settling 2 _ => b.k2
          | _ => b.k3
        let raw := (past * gain).tdiv 16
        let v := if raw < -(b.raiseMax : Int) then -(b.raiseMax : Int)
          else if (b.lowerMax : Int) < raw then b.lowerMax else raw
        (t.side x).demand = if (b.slewStep : Int) < v - d.demand then d.demand + b.slewStep
          else if (b.slewStep : Int) < d.demand - v then d.demand - b.slewStep else v) ∧
      (let overridden (k : SideLoop) : Prop := k.context.override ≠ none
      let first (steps : List (Fin 3)) : Settle := b.firstStep s.station.speed steps
      ((overridden d ↔ overridden (t.side x)) →
        (t.side x).settle = match d.settle with
          | .settling k dwell => if dwell ≤ 20 then first (if k = 0 then [1, 2] else if k = 1 then [2] else [])
            else .settling k (dwell - 20)
          | other => other) ∧
      (¬(overridden d ↔ overridden (t.side x)) → (t.side x).settle = first [0, 1, 2]))

/-- The first eligible step (R130, R131): the steps of a restart or a dwell expiry are judged in order, each
by its dwell and its skip speed against the measured speed; the first that passes is entered with its whole
dwell, and step 3 when none does. A dwell has no timer of its own (R132): its expiry is the side interval at
which it comes to 0, and where none does the command changes nothing (the model's choice, log entry 4). -/
def Obligations.SettleStepsAreJudgedInOrder : Prop :=
  (∀ (b : Bank) (speed : Int),
    let ok0 : Prop := 0 < b.t0 ∧ speed < b.v0
    let ok1 : Prop := 0 < b.t1 ∧ speed < b.v1
    let ok2 : Prop := 0 < b.t2 ∧ speed < b.v2
    (ok0 → b.firstStep speed [0, 1, 2] = .settling 0 (b.t0 * 100)) ∧
    (¬ ok0 → b.firstStep speed [0, 1, 2] = b.firstStep speed [1, 2]) ∧
    (ok1 → b.firstStep speed [1, 2] = .settling 1 (b.t1 * 100)) ∧
    (¬ ok1 → b.firstStep speed [1, 2] = b.firstStep speed [2]) ∧
    (ok2 → b.firstStep speed [2] = .settling 2 (b.t2 * 100)) ∧
    (¬ ok2 → b.firstStep speed [2] = .tracking) ∧ b.firstStep speed [] = .tracking) ∧
  ∀ (x : Side) (s : State), s.heldReset = none →
    (∀ k dwell, (s.side x).state = .auto → (s.side x).settle = .settling k dwell → dwell ≤ 20 →
      ∃ t, exec (.settleDwellExpiry x) s = .next t ∧ exec (.sideIntervalExpiry x) s = .next t) ∧
    ((s.side x).state ≠ .auto ∨ (∀ k dwell, (s.side x).settle = .settling k dwell → 20 < dwell) →
      exec (.settleDwellExpiry x) s = .next s)

/-- The plan depth of a side in AUTO, in either mode (R51, R53, R65): the hold depth, or the zone's depth along the
ramp. And the depth target of a side in GRADE mode (R59, R63, R64): the plan depth with the trim added and clamped,
and, while the station is valid, no deeper than the envelope of any covering mark, each formed from the half-chord
of the trimmed depth (R60, R61, R62). -/
def Obligations.GradeTargetsFollowThePlan : Prop :=
  ∀ (x : Side) (s t : State), s.heldReset = none → (s.side x).state = .auto →
    exec (.sideIntervalExpiry x) s = .next t →
    let c := (s.side x).context
    let top : Int := s.maxDepth
    let clamp (v : Int) : Int := if v < 0 then 0 else if top < v then top else v
    let P := (t.side x).context.planDepth
    let T := clamp (P + (s.side x).trim)
    (c.source = .hold → P = c.holdDepth) ∧
    (∀ z, c.source = .plan → s.governingZone = some z →
      let zx : Int := match x with | .left => z.fields.leftDepth | .right => z.fields.rightDepth
      let r : Int := z.fields.ramp
      let forward : Int := if s.station.sense = .ascending then (s.station.station : Int) - c.entryStation
        else (c.entryStation : Int) - s.station.station
      let p := if forward < 0 then 0 else if r < forward then r else forward
      (r = 0 → P = zx) ∧ (0 < r → P = c.entryDepth + ((zx - c.entryDepth) * p).tdiv r)) ∧
    ((s.side x).mode = .grade →
      (t.side x).context.basis = .depth ∧
      (s.station.valid = false → (t.side x).context.depthTarget = T) ∧
      (s.station.valid = true →
        let envelope (m : Mark) : Int :=
          let arg : Int := T * (20 * (Config.drumRadius s.station.drumClass : Int) - T)
          let root : Int := isqrt arg.toNat
          let h : Int := (root + 99) / 100
          let lo : Int := m.fields.start - h
          let hi : Int := (m.fields.start : Int) + m.fields.length - 1 + h
          let g : Int := m.fields.gradient.getD s.station.geometry.markGradient
          let st : Int := s.station.station
          if st < lo then m.fields.clearance + g * (lo - st)
          else if hi < st then m.fields.clearance + g * (st - hi) else m.fields.clearance
        (∀ m ∈ s.plan.marks, m.fields.covers x = true → (t.side x).context.depthTarget ≤ envelope m) ∧
        (t.side x).context.depthTarget ≤ T ∧
        ((t.side x).context.depthTarget = T ∨
          ∃ m ∈ s.plan.marks, m.fields.covers x = true ∧ (t.side x).context.depthTarget = clamp (envelope m))))

/-- The slope override (R65, R66, R67, R68): for a side in SLOPE mode it begins when a covering mark is
PROTECTED or APPROACH (R63) at the measured depth, with that depth captured; goes on while some covering mark is
so at the captured depth; and ends when none is or the station is invalid. Under it the depth target is the smallest of
the captured depth and the covering marks' envelopes, brought within 0..maximum; without it the side is on slope
and the depth target recorded is the trimmed depth (R59). The slope target is formed either way. -/
def Obligations.SlopeOverridesBeginAndEnd : Prop :=
  ∀ (x : Side) (s t : State) (m : Int), s.heldReset = none → (s.side x).state = .auto → (s.side x).mode = .slope →
    s.measuredDepth x = some m → exec (.sideIntervalExpiry x) s = .next t →
    let c := (s.side x).context
    let c' := (t.side x).context
    let clamp (v : Int) : Int := if v < 0 then 0 else if (s.maxDepth : Int) < v then s.maxDepth else v
    let dref : Int := c.override.getD (clamp m)
    let covering (k : Mark) : Prop := k ∈ s.plan.marks ∧ k.fields.covers x = true
    let env (k : Mark) : Int := (s.figures dref k.fields).env
    let near : Prop := s.station.valid = true ∧
      ∃ k, covering k ∧ (s.withinExtent dref k.fields ∨ env k < dref)
    (near → c'.override = some dref ∧ c'.basis = .depth ∧
      ∃ least : Int, c'.depthTarget = clamp least ∧ least ≤ dref ∧ (∀ k, covering k → least ≤ env k) ∧
        (least = dref ∨ ∃ k, covering k ∧ least = env k)) ∧
    (¬ near → c'.override = none ∧ c'.basis = .slope ∧ c'.depthTarget = clamp (c'.planDepth + (s.side x).trim)) ∧
    c'.slopeTarget = (match s.governingZone with
      | some z => z.fields.slope.getD c.heldSlope
      | none => c.heldSlope)

/-- The positions of the marks, and the law of the marks (R23, R60, R61, R62, R63). A computation of a side in AUTO
with the station valid hands every covering mark its position: PROTECTED within the protected extent, outside it
APPROACH where the envelope lies below the reference depth and CLEAR where it does not. While it is PROTECTED
or APPROACH the side is controlled on depth and its target does not exceed the mark's envelope. The other side's
position stands, and so does this side's for a mark that does not cover it or while the station is invalid. -/
def Obligations.TargetsStayUnderTheEnvelope : Prop :=
  ∀ (x : Side) (s : State) (k : Mark), s.heldReset = none → (s.side x).state = .auto → k ∈ s.plan.marks →
    ∃ t, exec (.sideIntervalExpiry x) s = .next t ∧ ∃ k' ∈ t.plan.marks, k'.number = k.number ∧ k'.fields = k.fields ∧
      k'.position (otherSide x) = k.position (otherSide x) ∧
      (s.station.valid = false ∨ k.fields.covers x = false → k'.position x = k.position x) ∧
      (s.station.valid = true → k.fields.covers x = true →
        ∀ dref, s.refersTo x (t.side x).context.planDepth dref →
          let env := (s.figures dref k.fields).env
          (s.withinExtent dref k.fields → k'.position x = .isProtected) ∧
          (¬ s.withinExtent dref k.fields → env < dref → k'.position x = .approach) ∧
          (¬ s.withinExtent dref k.fields → dref ≤ env → k'.position x = .clear) ∧
          (k'.position x = .approach ∨ k'.position x = .isProtected →
            (t.side x).context.basis = .depth ∧ (t.side x).context.depthTarget ≤ env))

/-- The profile offer and MARK_AHEAD (R69, R70, R71). The drum is inside a covering mark's region when the station
is valid and S lies within its lookahead region: from the approach length and the lead before the extent to the
extent's far end, by the sense. The offer is the smallest limit of those marks, none when there is none. Each mark's
inside flag for the side becomes that judgment, the other side's stands; a mark inside is announced, one inside on
neither side is re-armed, any other keeps its flag; and MARK_AHEAD is counted once for each mark inside that was not
announced. At the computation that ends an override the reference depth is still D_cap (the model's reading, log entry 9). -/
def Obligations.OffersAndAnnouncements : Prop :=
  ∀ (x : Side) (s : State), s.heldReset = none → (s.side x).state = .auto →
    ∃ t, exec (.sideIntervalExpiry x) s = .next t ∧ ∀ dref, s.refersTo x (t.side x).context.planDepth dref →
      let inside (k : MarkFields) : Prop := k.covers x = true ∧ s.station.valid = true ∧ s.withinLookahead dref k
      let limit (k : MarkFields) : Nat :=
        s.activeBank.raiseMax * 10 / k.gradient.getD s.station.geometry.markGradient
      (∀ v, (t.side x).context.offer = some v ↔
        (∃ k ∈ s.plan.marks, inside k.fields ∧ limit k.fields = v) ∧
          ∀ k ∈ s.plan.marks, inside k.fields → v ≤ limit k.fields) ∧
      (∃ after : Mark → Mark, t.plan.marks = s.plan.marks.map after ∧ ∀ k ∈ s.plan.marks,
        let k' := after k
        k'.number = k.number ∧ k'.fields = k.fields ∧ (k'.inside x = true ↔ inside k.fields) ∧
        k'.inside (otherSide x) = k.inside (otherSide x) ∧
        (inside k.fields → k'.memory.announced = true) ∧
        (¬ inside k.fields → k.inside (otherSide x) = false → k'.memory.announced = false) ∧
        (¬ inside k.fields → k.inside (otherSide x) = true → k'.memory.announced = k.memory.announced)) ∧
      ∃ news : List Mark, news.Sublist s.plan.marks ∧
        (∀ k ∈ s.plan.marks, k ∈ news ↔ inside k.fields ∧ k.memory.announced = false) ∧
        (t.notice .markAhead).count = (s.notice .markAhead).count + BitVec.ofNat 8 news.length ∧
        (news ≠ [] → (t.notice .markAhead).latch = true) ∧
        (news = [] → t.notice .markAhead = s.notice .markAhead)

/-- READ SIDE, READ GOVERNOR, READ CONVEYOR and READ NOTICES (R72, R118, R152, R175, R181, R199) report the
state as section 10.6 lays it out, and change nothing. -/
def Obligations.LoopReadsReportTheState : Prop :=
  ∀ (i : Instr) (r : Request) (row : RequestRow) (s : State), s.serves i row r →
    let v := fieldAt (r.body.take row.size) 0 1
    let flag (b : Bool) : Byte := if b then 1 else 0
    (i = .readSide r → (v ≠ 1 → v ≠ 2 → exec i s = .next (s.refuses row r .outOfRange)) ∧
      ∀ x : Side, v = (match x with | .left => 1 | .right => 2) →
        let d := s.side x
        let c := d.context
        exec i s = .next (s.popped.answers row r .done (
          [BitVec.ofNat 8 v, BitVec.ofNat 8 d.state.code, BitVec.ofNat 8 d.mode.code] ++ intBytes 2 d.trim ++
          intBytes 2 d.demand ++
          (match d.lease with
            | some l => [BitVec.ofNat 8 l.direction.code, BitVec.ofNat 8 l.remaining]
            | none => [0, 0]) ++
          (match d.settle with
            | .settling k dwell => BitVec.ofNat 8 k.val :: beBytes 2 dwell
            | .tracking => [3, 0, 0]
            | .abandoned => [255, 0, 0]) ++
          (match d.referencing with
            | some k => 1 :: intBytes 1 k.idleLoad ++ intBytes 2 k.startReading
            | none => [0, 0, 0, 0]) ++
          [flag (s.isReferenced x)] ++ intBytes 2 ((s.measuredDepth x).getD (-32768)) ++
          intBytes 2 (if d.mode = .slope then s.crossSlope.getD (-32768) else -32768) ++
          [BitVec.ofNat 8 c.source.code] ++ intBytes 2 c.entryDepth ++ beBytes 4 c.entryStation ++
          intBytes 2 c.holdDepth ++ intBytes 2 c.planDepth ++ intBytes 2 c.depthTarget ++
          [BitVec.ofNat 8 c.basis.code] ++ intBytes 2 c.slopeTarget ++ intBytes 2 c.heldSlope ++
          (match c.override with | some k => 1 :: intBytes 2 k | none => [0, 0, 0]) ++
          (match c.offer with | some k => 1 :: intBytes 2 k | none => [0, 0, 0])))) ∧
    (i = .readGovernor r → exec i s = .next (s.popped.answers row r .done (
      beBytes 2 s.governor.ceiling ++
      [BitVec.ofNat 8 s.governor.reason.code, BitVec.ofNat 8 s.governor.reduction,
        BitVec.ofNat 8 s.governor.belowCount] ++
      beBytes 2 s.governor.cap ++
      (match s.governor.profileLimit with | some k => 1 :: beBytes 2 k | none => [0, 0, 0]) ++
      [flag s.governor.inCut] ++ (if s.governor.formed then [1, s.governor.count - 1] else [0, 0])))) ∧
    (i = .readConveyor r →
      let c := s.conveyor
      exec i s = .next (s.popped.answers row r .done (
        [BitVec.ofNat 8 c.state.code, BitVec.ofNat 8 c.beltMode.code] ++ beBytes 2 c.fixedSpeed ++
        beBytes 2 c.beltSpeed ++ beBytes 2 (c.neededSpeed.getD 0) ++
        (if c.state = .runOn then beBytes 2 (c.runOnSpeed.getD 0) ++ beBytes 2 c.runOnCount else [0, 0, 0, 0]) ++
        beBytes 3 (min c.lastInflow 16777215) ++ [flag c.inCut] ++ beBytes 3 c.fill ++
        [flag c.fillLatch, BitVec.ofNat 8 c.blockCount] ++ beBytes 4 c.truckCounter ++ beBytes 2 c.truckTarget ++
        beBytes 5 c.milled ++ beBytes 5 c.delivered ++ beBytes 5 c.spill))) ∧
    (i = .readNotices r → ∃ latches masks causes : List Byte,
      (∀ n : Notice, (beNat latches).testBit n.number.val = (s.notice n).latch ∧
        (beNat masks).testBit n.number.val = (s.notice n).masked ∧
        (beNat causes).testBit n.number.val = (s.notice n).cause) ∧
      latches.length = 3 ∧ masks.length = 3 ∧ causes.length = 3 ∧
      beNat latches < 2 ^ 19 ∧ beNat masks < 2 ^ 19 ∧ beNat causes < 2 ^ 19 ∧
      exec i s = .next (s.popped.answers row r .done (latches ++ masks ++ causes ++
        s.notices.records.toList.map NoticeRecord.count ++ [flag s.notices.alertLow])))

/-! ### Banks and the Advance Governor (Chapters 6 and 7) -/

/-- WRITE BANK (R116, R126, R127): OUT_OF_RANGE for a name or a field out of its list or range, or every
field of the bank replaced; a write to the active bank brings both held demands within its new limits. -/
def Obligations.WriteBankReplacesTheBank : Prop :=
  ∀ (r : Request) (row : RequestRow) (s : State), s.serves (.writeBank r) row r →
    let p := r.body.take row.size
    let v := fieldAt p 0 1
    let b := bankOfBytes (p.drop 1)
    (v ≠ 1 ∧ v ≠ 2 ∨ b.inRange = false → exec (.writeBank r) s = .next (s.refuses row r .outOfRange)) ∧
    ∀ n : BankName, v = (match n with | .soft => 1 | .hard => 2) → b.inRange = true →
      let limited (d : SideLoop) : SideLoop := if s.banks.active = n then { d with
        demand := if d.demand < -(b.raiseMax : Int) then -(b.raiseMax : Int)
          else if (b.lowerMax : Int) < d.demand then b.lowerMax else d.demand } else d
      exec (.writeBank r) s = .next (({ s.popped with
        banks := match n with | .soft => { s.banks with soft := b } | .hard => { s.banks with hard := b }
        left := limited s.left
        right := limited s.right } : State).answers row r .done [])

/-- SET ADVANCE CAP (R142, R143): the cap carried, brought within 0..600 and answered with the value stored;
a held ceiling above it comes down to it at once with reason OPERATOR, and nothing else changes. -/
def Obligations.AdvanceCapsAreClamped : Prop :=
  ∀ (r : Request) (row : RequestRow) (s : State), s.serves (.setAdvanceCap r) row r →
    let carried := signedAt (r.body.take row.size) 0 2
    let out (cap : Nat) (status : Status) : Answer := .next (({ s.popped with
      governor := if cap < s.governor.ceiling then { s.governor with cap := cap, ceiling := cap, reason := .operator }
        else { s.governor with cap := cap } } : State).answers row r status (beBytes 2 cap))
    (carried < 0 → exec (.setAdvanceCap r) s = out 0 .clamped) ∧
    (0 ≤ carried → carried ≤ 600 → exec (.setAdvanceCap r) s = out carried.toNat .done) ∧
    (600 < carried → exec (.setAdvanceCap r) s = out 600 .clamped)

/-- The governor interval (R138, R139, R140, R144, R145): the in-cut judgment first, then the smallest value
among the present sources with the first source that has it as the reason, and one ceiling message, which
replaces one not yet sent. -/
def Obligations.GovernorIntervalsFormTheCeiling : Prop :=
  ∀ s : State, s.heldReset = none →
    ∃ (inCut : Bool) (ceiling : Nat) (reason : Reason),
      ((∃ x d, s.measuredDepth x = some d ∧ s.station.geometry.inCutThreshold ≤ d) → inCut = true) ∧
      ((∃ x, s.measuredDepth x ≠ none) →
        (∀ x d, s.measuredDepth x = some d → d < s.station.geometry.inCutThreshold) → inCut = false) ∧
      ((∀ x, s.measuredDepth x = none) → inCut = s.governor.inCut) ∧
      let stop (b : Bool) : Option Nat := if b then some 0 else none
      let value (k : Reason) : Option Nat := match k with
        | .reset => none
        | .operator => some s.governor.cap
        | .zone => s.governingZone.bind (fun z => z.fields.cap)
        | .load => some (s.governor.cap * (100 - s.governor.reduction) / 100)
        | .profile => match s.left.context.offer, s.right.context.offer with
          | some a, some b => some (if a ≤ b then a else b)
          | some a, none => some a
          | none, b => b
        | .fill => stop s.conveyor.fillLatch
        | .freeze => stop ((s.left.state = .frozen || s.right.state = .frozen) && inCut)
        | .belt => stop (s.conveyor.state = .blocked)
        | .link => stop s.link.linkLoss
        | .reference => stop (s.left.state = .referencing || s.right.state = .referencing)
      value reason = some ceiling ∧ (∀ k c, value k = some c → ceiling ≤ c) ∧
      (∀ k c, value k = some c → k.code < reason.code → ceiling < c) ∧
      exec .governorIntervalExpiry s = .next { s with
        governor := { s.governor with
          inCut := inCut, ceiling := ceiling, reason := reason, profileLimit := value .profile
          count := s.governor.count + 1, formed := true }
        sensorLink := ⟨some (beBytes 2 ceiling ++ [BitVec.ofNat 8 reason.code, s.governor.count])⟩
        timers := { s.timers with governor := 50 } }

/-- The load window (R146, R147, R148, R149): a channel that is not LIVE judges nothing; else the reduction
and the below-window count move by the row of the window load against the active bank's threshold, with
STALL_GUARD at a stall from below 100 and LOAD_HIGH at a step from 0. -/
def Obligations.LoadWindowsMoveTheReduction : Prop :=
  ∀ s : State, s.heldReset = none →
    (s.drumLoad = none → exec .loadWindowExpiry s = .next { s with timers.loadWindow := 500 }) ∧
    ∀ w : Int, s.drumLoad = some w → GovernorOk s →
      let θ : Int := s.activeBank.loadThreshold
      let red := s.governor.reduction
      let below := s.governor.belowCount
      ∃ red' below' : Nat,
        (98 ≤ w → red' = 100 ∧ below' = 0) ∧
        (w < 98 → θ ≤ w → below' = 0 ∧ (red ≤ 60 → red' = red + 10) ∧ (red = 70 ∨ red = 100 → red' = 70)) ∧
        (w < 98 → w < θ → θ - 5 ≤ w → red' = red ∧ below' = 0) ∧
        (w < 98 → w < θ - 5 → below = 0 → red' = red ∧ below' = 1) ∧
        (w < 98 → w < θ - 5 → below = 1 → below' = 0 ∧ (red = 100 → red' = 70) ∧
          (10 ≤ red → red ≤ 70 → red' + 10 = red) ∧ (red = 0 → red' = 0)) ∧
        let t : State := { s with
          governor := { s.governor with reduction := red', belowCount := below' }
          timers.loadWindow := 500 }
        exec .loadWindowExpiry s = .next (
          if 98 ≤ w ∧ red < 100 then t.raiseNotice .stallGuard
          else if w < 98 ∧ θ ≤ w ∧ red = 0 then t.raiseNotice .loadHigh
          else t)

/-! ### The Loading Conveyor (Chapter 8) -/

/-- CONVEYOR START, CONVEYOR STOP, TRUCK AWAY, TRUCK READY, CLEAR BLOCK and CLEAR TOTALS (R160, R161, R169,
R170, R172, R173) in each conveyor state: what they refuse, and what they leave of the conveyor. -/
def Obligations.ConveyorRequestsMoveTheBelt : Prop :=
  ∀ (i : Instr) (r : Request) (row : RequestRow) (s : State), s.serves i row r →
    let c := s.conveyor
    let g := s.station.geometry
    let running (k : Conveyor) : Conveyor := { k with
      state := .running, runOnSpeed := none, runOnCount := 0
      beltSpeed := if c.beltMode = .fixed then c.fixedSpeed else c.neededSpeed.getD g.beltMin }
    let standing (v : ConveyorState) : Conveyor := { c with
      state := v, beltSpeed := 0, runOnSpeed := none, runOnCount := 0, blockCount := 0 }
    let done (k : Conveyor) : Answer := .next (({ s.popped with conveyor := k } : State).answers row r .done [])
    let wrong : Answer := .next (s.refuses row r .wrongState)
    (i = .conveyorStart r →
      (c.state = .stopped ∨ c.state = .runOn → exec i s = done (running c)) ∧
      (c.state = .running → exec i s = done c) ∧
      (c.state = .held ∨ c.state = .blocked → exec i s = wrong)) ∧
    (i = .conveyorStop r →
      (c.state = .running → exec i s = done { c with
        state := .runOn, runOnSpeed := some c.beltSpeed, runOnCount := g.runOnTime }) ∧
      (c.state = .held → exec i s = done (standing .stopped)) ∧
      (c.state = .runOn ∨ c.state = .stopped ∨ c.state = .blocked → exec i s = done c)) ∧
    (i = .truckAway r →
      (c.state = .running ∨ c.state = .runOn → exec i s = done (standing .held)) ∧
      (c.state = .held → exec i s = done c) ∧
      (c.state = .stopped ∨ c.state = .blocked → exec i s = wrong)) ∧
    (i = .truckReady r →
      let emptied : Conveyor := { c with truckCounter := 0 }
      exec i s = .next ((({ s.popped with
        conveyor := if c.state = .held then running emptied else emptied } : State).tellCause .truckFull false).answers
          row r .done [])) ∧
    (i = .clearBlock r →
      (c.state ≠ .blocked → exec i s = wrong) ∧
      (c.state = .blocked → (∃ p, s.beltPressure = some p ∧ g.blockPressure ≤ p) → exec i s = wrong) ∧
      (c.state = .blocked → (∀ p, s.beltPressure = some p → p < g.blockPressure) →
        exec i s = .next ((({ s.popped with conveyor := standing .stopped } : State).tellCause .beltBlocked
          false).answers row r .done []))) ∧
    (i = .clearTotals r → exec i s = done { c with milled := c.fill, delivered := 0, spill := 0 })

/-- SET BELT MODE (R162) and SET TRUCK TARGET (R167, R168): the set-point brought within its range and
answered with the value stored; a running belt takes the new mode's speed, and a target already reached
stops a turning belt in HELD when hold on truck full is on. -/
def Obligations.BeltModesAndTruckTargetsAreSet : Prop :=
  (∀ (r : Request) (row : RequestRow) (s : State), s.serves (.setBeltMode r) row r →
    let p := r.body.take row.size
    let v := fieldAt p 0 1
    let w := fieldAt p 1 2
    let c := s.conveyor
    let g := s.station.geometry
    let stored := if w < g.beltMin then g.beltMin else if g.beltMax < w then g.beltMax else w
    let out (mode : BeltMode) (fixed speed : Nat) (status : Status) (b : Byte) : Answer :=
      .next (({ s.popped with conveyor := { c with
        beltMode := mode, fixedSpeed := fixed
        beltSpeed := if c.state = .running then speed else c.beltSpeed } } : State).answers row r status
          (b :: beBytes 2 fixed))
    (v ≠ 1 → v ≠ 2 → exec (.setBeltMode r) s = .next (s.refuses row r .outOfRange)) ∧
    (v = 1 → exec (.setBeltMode r) s = out .auto c.fixedSpeed (c.neededSpeed.getD g.beltMin) .done 1) ∧
    (v = 2 → exec (.setBeltMode r) s =
      out .fixed stored stored (if g.beltMin ≤ w ∧ w ≤ g.beltMax then .done else .clamped) 2)) ∧
  ∀ (r : Request) (row : RequestRow) (s : State), s.serves (.setTruckTarget r) row r →
    let carried := signedAt (r.body.take row.size) 0 4
    let stored : Nat := if carried < 0 then 0 else if 40000 < carried then 40000 else carried.toNat
    let c : Conveyor := { s.conveyor with truckTarget := stored }
    let full : Bool := 0 < stored && stored * 100 ≤ c.truckCounter
    let stops : Prop := full = true ∧ s.station.geometry.holdOnFull = true ∧ (c.state = .running ∨ c.state = .runOn)
    exec (.setTruckTarget r) s = .next ((({ s.popped with
      conveyor := if stops then { c with
        state := .held, beltSpeed := 0, runOnSpeed := none, runOnCount := 0, blockCount := 0 } else c } :
      State).tellCause .truckFull full).answers row r (if 0 ≤ carried ∧ carried ≤ 40000 then .done else .clamped)
        (beBytes 2 stored))

/-- The conveyor interval (R156 to R159, R163 to R168, R171, R173): the nine stages in order, for a part whose
records keep their ranges; and the run-on expiry, which is the interval at which a run-on's count comes to 0
and nothing where none does (the model's choice, log entry 4). -/
def Obligations.ConveyorIntervalsWorkThroughTheStages : Prop :=
  ∀ (s : State) (cut : Bool), s.heldReset = none → StationOk s → MaterialOk s →
    let c := s.conveyor
    let g := s.station.geometry
    let W := Config.drumWidth s.station.drumClass
    let v := s.station.speed
    ((∃ x d, s.measuredDepth x = some d ∧ g.inCutThreshold ≤ d) → cut = true) →
    ((∃ x, s.measuredDepth x ≠ none) → (∀ x d, s.measuredDepth x = some d → d < g.inCutThreshold) → cut = false) →
    ((∀ x, s.measuredDepth x = none) → cut = c.inCut) →
    let standing (dest : ConveyorState) (k : Conveyor) : Conveyor := { k with
      state := dest, beltSpeed := 0, runOnSpeed := none, runOnCount := 0, blockCount := 0 }
    let enters : Prop := cut = true ∧ c.inCut = false
    let leaves : Prop := cut = false ∧ c.inCut = true
    let c₂ : Conveyor :=
      if enters ∧ (c.state = .stopped ∧ g.autoStart = true ∨ c.state = .runOn) then
        { c with inCut := cut, state := .running, runOnSpeed := none, runOnCount := 0 }
      else if leaves ∧ c.state = .running then
        { c with inCut := cut, state := .runOn, runOnSpeed := some c.beltSpeed, runOnCount := g.runOnTime }
      else { c with inCut := cut }
    let judged : Nat := match s.beltPressure with
      | some p => if g.blockPressure ≤ p then c₂.blockCount + 1 else 0
      | none => c₂.blockCount
    let turning : Prop := c₂.state = .running ∨ c₂.state = .runOn
    let c₃ : Conveyor := if turning then (if 10 ≤ judged then standing .blocked c₂ else { c₂ with blockCount := judged })
      else c₂
    let ends : Prop := c.state = .runOn ∧ c₃.state = .runOn ∧ c.runOnCount = 1
    let c₄ : Conveyor :=
      if ends then standing .stopped c₃
      else if c.state = .runOn ∧ c₃.state = .runOn then { c₃ with runOnCount := c₃.runOnCount - 1 }
      else c₃
    let inflow (dm : Nat) : Nat := dm * W * v.toNat / 10000 * g.swell / 10000
    let q : Nat := if cut = false ∨ v ≤ 0 then 0 else
      match s.measuredDepth .left, s.measuredDepth .right with
      | some a, some b => inflow ((a.toNat + b.toNat) / 2)
      | some a, none => inflow a.toNat
      | none, some b => inflow b.toNat
      | none, none => c.lastInflow
    let n₁ := (q * 100 + (g.beltLoad - 1)) / g.beltLoad
    let n₂ := (n₁ * (100 + g.beltMargin) + 99) / 100
    let needed := if n₂ < g.beltMin then g.beltMin else if g.beltMax < n₂ then g.beltMax else n₂
    let belt : Nat := match c₄.state with
      | .running => if c.beltMode = .fixed then c.fixedSpeed else needed
      | .runOn => c₄.runOnSpeed.getD 0
      | _ => 0
    let out := min (c.fill + q) (belt * g.beltLoad / 100)
    let rest := c.fill + q - out
    let cleared : Prop := 999999999999 < c.milled + q
    let fill := min rest g.housingCapacity
    let counter := min 999999999 (c.truckCounter + out)
    let full : Bool := 0 < c.truckTarget && c.truckTarget * 100 ≤ counter
    let latch : Bool :=
      if g.fillHigh * g.housingCapacity / 100 ≤ fill then true
      else if fill ≤ g.fillLow * g.housingCapacity / 100 then false else c.fillLatch
    let c₈ : Conveyor := { c₄ with
      lastInflow := q, neededSpeed := some needed, beltSpeed := belt, fill := fill
      spill := if cleared then 0 else c.spill + (rest - g.housingCapacity)
      milled := if cleared then fill else c.milled + q
      delivered := if cleared then 0 else c.delivered + out
      truckCounter := counter, fillLatch := latch }
    let holds : Prop := full = true ∧ g.holdOnFull = true ∧ (c₈.state = .running ∨ c₈.state = .runOn)
    let s₃ : State := if turning ∧ 10 ≤ judged then s.tellCause .beltBlocked true else s
    let s₇ : State := if c.fill < g.housingCapacity ∧ g.housingCapacity < rest then s₃.raiseNotice .spill else s₃
    let t : State := { (s₇.tellCause .truckFull full).tellCause .fillHigh latch with
      conveyor := if holds then standing .held c₈ else c₈
      timers := { s.timers with conveyor := 100 } }
    exec .conveyorIntervalExpiry s = .next t ∧
      (ends → exec .runOnExpiry s = .next t) ∧ (¬ ends → exec .runOnExpiry s = .next s)

/-! ### Notices (Chapter 9) -/

/-- ACKNOWLEDGE NOTICES and SET NOTICE MASK (R182, R183): OUT_OF_RANGE for a set with a number above 18; the
named latches cleared but those of condition notices whose cause is present; or the masks replaced, which
CONSOLE alone may do. ALERTn follows the latches and masks as they then stand, and nothing else changes. -/
def Obligations.NoticesAreAcknowledgedAndMasked : Prop :=
  let alert (t : State) : Prop := t.notices.alertLow = true ↔ ∃ n : Notice, (t.notice n).latch = true ∧
    (t.notice n).masked = false
  (∀ (r : Request) (row : RequestRow) (s : State), s.serves (.acknowledgeNotices r) row r →
    let v := fieldAt (r.body.take row.size) 0 3
    (2 ^ 19 ≤ v → exec (.acknowledgeNotices r) s = .next (s.refuses row r .outOfRange)) ∧
    (v < 2 ^ 19 → ∃ (t : State) (latches : List Byte),
      exec (.acknowledgeNotices r) s = .next (t.answers row r .done latches) ∧ alert t ∧
      { t with notices := s.notices } = s.popped ∧
      (∀ n : Notice, t.notice n = { s.notice n with
        latch := if v.testBit n.number.val then isCondition n.number.val && (s.notice n).cause
          else (s.notice n).latch }) ∧
      latches.length = 3 ∧ beNat latches < 2 ^ 19 ∧
      ∀ n : Notice, (beNat latches).testBit n.number.val = (t.notice n).latch)) ∧
  (∀ n : Notice, isCondition n.number.val = true ↔
    n ∈ [.planGap, .stationInvalid, .sensorLost, .sideFrozen, .fillHigh, .truckFull, .beltBlocked, .linkLost]) ∧
  (∀ (r : Request) (row : RequestRow) (s : State), s.serves (.setNoticeMask r) row r →
    let v := fieldAt (r.body.take row.size) 0 3
    (2 ^ 19 ≤ v → exec (.setNoticeMask r) s = .next (s.refuses row r .outOfRange)) ∧
    (v < 2 ^ 19 → ∃ t : State, exec (.setNoticeMask r) s = .next (t.answers row r .done []) ∧ alert t ∧
      { t with notices := s.notices } = s.popped ∧
      ∀ n : Notice, t.notice n = { s.notice n with masked := v.testBit n.number.val })) ∧
  ∀ (r : Request) (row : RequestRow) (s : State), requestRow (.setNoticeMask r) = some (row, r) →
    s.atHead row.code r → sizedAs row.size r → r.requester ≠ .console →
    exec (.setNoticeMask r) s = .next (s.refuses row r .notPermitted)

/-- Raising an event notice and telling a cause (R178, R179, R180): the latch and the count of that notice
alone, the line following the latches and masks; a cause that already stands is not begun again, and an end
keeps the latch and the line. -/
def Obligations.NoticesLatchCountAndAlert : Prop :=
  ∀ (n : Notice) (s : State),
    let r := s.notice n
    let only (t : State) (v : NoticeRecord) : Prop :=
      t.notice n = v ∧ (∀ k, k ≠ n → t.notice k = s.notice k) ∧ { t with notices := s.notices } = s
    let alert (t : State) : Prop := t.notices.alertLow = true ↔ ∃ k : Notice, (t.notice k).latch = true ∧
      (t.notice k).masked = false
    only (s.raiseNotice n) { r with latch := true, count := r.count + 1 } ∧ alert (s.raiseNotice n) ∧
    (r.cause = false → only (s.tellCause n true) { r with latch := true, cause := true, count := r.count + 1 } ∧
      alert (s.tellCause n true)) ∧
    (r.cause = true → s.tellCause n true = s) ∧
    only (s.tellCause n false) { r with cause := false } ∧
    (s.tellCause n false).notices.alertLow = s.notices.alertLow

/-! ### The links and the resets (Chapter 10) -/

/-- Arrivals (R186, R187, R193) and malformed frames (R188). A frame on no request identifier, extended or
remote changes nothing; another joins the tail or, with four waiting, is discarded with REQUEST_OVERRUN, and
one of CONSOLE restarts the supervision and ends the link loss either way. A frame too short or of no known
code is taken and answered BAD_REQUEST with the code and tag it carried, 0 for those it lacks; for any other
frame that command changes nothing (the model's reading, log entry 3). -/
def Obligations.ArrivalsJoinTheQueue : Prop :=
  (∀ (f : CanFrame) (s : State), s.heldReset = none →
    (f.extended = true ∨ f.remote = true ∨ f.ident < 0x301 ∨ 0x304 < f.ident →
      exec (.requestArrival f) s = .next s) ∧
    ∀ q : Requester, f.extended = false → f.remote = false →
      f.ident = (match q with
        | .console => 0x301 | .planTerminal => 0x302 | .leftPanel => 0x303 | .rightPanel => 0x304) →
      let heard : State := ({ s with link := { s.link with
        supervision := some 1500, linkLoss := false } } : State).tellCause .linkLost false
      let t : State := if q = .console then heard else s
      (s.link.queue.length < 4 → exec (.requestArrival f) s = .next { t with
        link := { t.link with queue := s.link.queue ++ [⟨q, f.data⟩] } }) ∧
      (4 ≤ s.link.queue.length → exec (.requestArrival f) s = .next (t.raiseNotice .requestOverrun))) ∧
  ∀ (f : Frame) (s : State),
    let known : Prop := 3 ≤ f.data.length ∧
      ∃ i row r, requestRow i = some (row, r) ∧ row.code = (f.data.getD 0 0).toNat
    (known → exec (.malformedFrameTaken f) s = .next s) ∧
    (¬ known → s.heldReset = none → s.link.response = none → s.link.restartTaken = false →
      s.link.queue.head? = some f →
      exec (.malformedFrameTaken f) s = .next { s with link := { s.link with
        queue := s.link.queue.tail
        response := some ⟨f.requester, [f.data.getD 0 0, f.data.getD 1 0, 2, 0], 100, none⟩ } })

/-- What leaves the part and what its link timers do (R186, R190, R191, R192, R193, R196). The plan link's
transmitter sends the broadcast, on 0x380, before a response, on the requester's response identifier; the sensor
link's sends the ceiling message, on 0x4F0 in the classical format. (That the broadcast too is in the flexible
data-rate format, and that no fill bytes stand in a frame, is the model's reading, log entry 18.) A response that is
sent with no broadcast before it, or is discarded, makes way for its second segment or for nothing; a broadcast and
a ceiling message leave; each broadcast is formed from the state with its count; and supervision runs out with a
side in AUTO. An event that cannot occur (a response sent while a broadcast stands before it, a slot that is empty,
a timer that has run out) changes nothing (the model's reading, log entries 3 and 15). -/
def Obligations.LinkEventsEmptyTheSlots : Prop :=
  ∀ s : State, s.heldReset = none →
    (let ident (q : Requester) : Nat := match q with
      | .console => 0x381 | .planTerminal => 0x382 | .leftPanel => 0x383 | .rightPanel => 0x384
    s.planLinkSends = (match s.link.broadcast, s.link.response with
      | some d, _ => some ⟨true, 0x380, d⟩
      | none, some m => some ⟨true, ident m.requester, m.data⟩
      | none, none => none) ∧
    s.sensorLinkSends = s.sensorLink.ceilingMessage.map (fun d => ⟨false, 0x4F0, d⟩)) ∧
    (∀ i : Instr, i = .responseSent ∧ s.link.broadcast = none ∨ i = .responseDiscard →
      exec i s = .next { s with link := { s.link with
        response := s.link.response.bind (fun m => m.second.map (fun d => ⟨m.requester, d, 100, none⟩)) } }) ∧
    (s.link.broadcast ≠ none → exec .responseSent s = .next s) ∧
    exec .broadcastSent s = .next { s with link := { s.link with broadcast := none } } ∧
    exec .ceilingMessageSent s = .next { s with sensorLink := ⟨none⟩ } ∧
    (let block (x : Side) : List Byte :=
      let d := s.side x
      [BitVec.ofNat 8 d.state.code, BitVec.ofNat 8 d.context.source.code, BitVec.ofNat 8 d.context.basis.code] ++
        intBytes 2 (if d.context.basis = .depth then d.context.depthTarget else d.context.slopeTarget) ++
        intBytes 2 ((s.measuredDepth x).getD (-32768)) ++ intBytes 2 d.demand
    ∃ latches : List Byte, latches.length = 3 ∧ beNat latches < 2 ^ 19 ∧
      (∀ n : Notice, (beNat latches).testBit n.number.val = (s.notice n).latch) ∧
      exec .statusBroadcast s = .next { s with link := { s.link with
        broadcast := some (beBytes 4 s.station.station ++
          [if s.station.valid then 1 else 0, BitVec.ofNat 8 s.station.sense.code,
            BitVec.ofNat 8 (s.plan.governing.getD 0)] ++
          block .left ++ block .right ++ beBytes 2 s.governor.ceiling ++
          [BitVec.ofNat 8 s.governor.reason.code, BitVec.ofNat 8 s.conveyor.state.code] ++
          beBytes 2 s.conveyor.beltSpeed ++ beBytes 3 s.conveyor.fill ++ beBytes 4 s.conveyor.truckCounter ++
          latches ++ [s.link.broadcastCount])
        broadcastCount := s.link.broadcastCount + 1
        broadcastTimer := 100 } }) ∧
    (let auto : Prop := s.left.state = .auto ∨ s.right.state = .auto
    (s.link.supervision = none → exec .supervisionExpiry s = .next s) ∧
    (s.link.supervision ≠ none → auto → exec .supervisionExpiry s = .next (({ s with link := { s.link with
      supervision := none, linkLoss := true } } : State).tellCause .linkLost true)) ∧
    (s.link.supervision ≠ none → ¬ auto → exec .supervisionExpiry s = .next { s with link := { s.link with
      supervision := some 1500 } }))

/-- PRESENCE, RESTART and the start of a reset (R194, R197, R198): RESTART waits for its response to leave, the
supply gives a cold reset and RESETn a warm one unless a cold one is held; the queue, the slots and the
ceiling message are emptied and ALERTn released; while it is held the lift outputs run at 50 % (R117) and the belt
output at 0 % (R174). That while it is held no command but another reset source or the release changes anything is
what the model reads from the rule (log entry 3, DEDUCED), and that where no RESTART is due its start changes nothing is its choice
(log entry 3); that the outputs follow the state at once, and not from the next PWM period, is its choice too
(log entry 14). -/
def Obligations.ResetsHoldThePart : Prop :=
  (∀ (r : Request) (row : RequestRow) (s : State),
    (s.serves (.presence r) row r → exec (.presence r) s = .next (s.popped.answers row r .done [])) ∧
    (s.serves (.restart r) row r → exec (.restart r) s = .next (({ s.popped with
      link := { s.popped.link with restartTaken := true } } : State).answers row r .done []))) ∧
  (let held (kind : ResetKind) (s : State) : State := { s with
    heldReset := some kind
    link := { s.link with queue := [], response := none, broadcast := none, restartTaken := false }
    sensorLink := ⟨none⟩
    notices := { s.notices with alertLow := false } }
  ∀ s : State,
    exec (.resetAssert .supply) s = .next (held .cold s) ∧
    exec (.resetAssert .resetPin) s = .next (held (if s.heldReset = some .cold then .cold else .warm) s) ∧
    (s.heldReset = none → s.link.restartTaken = true → s.link.response = none →
      exec .restartResetStart s = .next (held .warm s)) ∧
    (s.heldReset ≠ none ∨ s.link.restartTaken = false ∨ s.link.response ≠ none →
      exec .restartResetStart s = .next s)) ∧
  (∀ (i : Instr) (s : State), s.heldReset ≠ none → (∀ src, i ≠ .resetAssert src) →
    (∀ a b c d, i ≠ .coldResetRelease a b c d) → (∀ a b, i ≠ .warmResetRelease a b) → exec i s = .next s) ∧
  ∀ (s : State) (x : Side),
    (s.heldReset ≠ none → s.liftHigh x = 600 ∧ s.beltHigh = 0) ∧
    (s.heldReset = none → s.liftHigh x = 600 + 2 * (s.side x).demand ∧ s.beltHigh = s.conveyor.beltSpeed * 12 / 5)

/-- The release of a reset (R30, R31, R32, R37, R48, R73, R84, R96, R122, R123, R137, R155, R185, R197, R198).
A cold one leaves the machine as reset has it, with the drum class of the straps and the encoder levels; a
warm one keeps what the chapters keep, and latches WARM_RESTART and the causes present. That each free-running timer
starts with its whole period after either release is the model's choice (log entry 12), for the rules leave its first
expiry open. A release of a reset that is not held changes nothing (the model's reading, log entry 3). -/
def Obligations.ResetsReleaseTheirValues : Prop :=
  (∀ (a b ea eb : Bool) (s : State),
    (s.heldReset ≠ some .cold → exec (.coldResetRelease a b ea eb) s = .next s) ∧
    (s.heldReset = some .cold → ∀ k : Fin 4, k.val = 2 * (if a then 1 else 0) + (if b then 1 else 0) →
      exec (.coldResetRelease a b ea eb) s = .next { State.reset with
        station := { State.reset.station with drumClass := k, phaseA := ea, phaseB := eb }
        pending := s.pending })) ∧
  ∀ (ea eb : Bool) (s : State),
    (s.heldReset ≠ some .warm → exec (.warmResetRelease ea eb) s = .next s) ∧
    (s.heldReset = some .warm → ∃ t, exec (.warmResetRelease ea eb) s = .next t ∧
      t.plan = ⟨s.plan.zones, s.plan.marks.map (fun m => ⟨m.number, m.fields,
        if m.fields.sides = .right then .clear else .unknown, if m.fields.sides = .left then .clear else .unknown,
        ⟨false, false, false⟩⟩), none⟩ ∧
      t.station = { s.station with fine := 0, valid := false, speed := 0, accum := 0, phaseA := ea, phaseB := eb } ∧
      (∀ n, t.channel n = { s.channel n with
        health := .absent, value := none, status := none, engaged := false, timer := none }) ∧
      t.monitor.roles = s.monitor.roles ∧
      (∀ x, t.side x = { State.reset.side x with mode := (s.side x).mode, trim := (s.side x).trim }) ∧
      t.banks = s.banks ∧ t.governor = { State.reset.governor with cap := s.governor.cap } ∧
      (let c := s.conveyor
      let g := s.station.geometry
      let latch : Bool :=
        if g.fillHigh * g.housingCapacity / 100 ≤ c.fill then true
        else if c.fill ≤ g.fillLow * g.housingCapacity / 100 then false else c.fillLatch
      t.conveyor = { State.reset.conveyor with
        beltMode := c.beltMode, fixedSpeed := c.fixedSpeed, fill := c.fill, fillLatch := latch
        truckCounter := c.truckCounter, truckTarget := c.truckTarget, milled := c.milled
        delivered := c.delivered, spill := c.spill } ∧
      t.link = State.reset.link ∧ t.sensorLink = ⟨none⟩ ∧ t.timers = State.reset.timers ∧ t.heldReset = none ∧ t.pending = s.pending ∧
      ∀ n : Notice,
        let present : Prop :=
          n = .sensorLost ∧ allRoles.any (fun r => (s.monitor.roles.get r).isSome) = true ∨ n = .fillHigh ∧ latch = true ∨
          n = .truckFull ∧ 0 < c.truckTarget ∧ c.truckTarget * 100 ≤ c.truckCounter
        t.notice n =
          if n = .warmRestart then ⟨true, (s.notice n).masked, false, 1⟩
          else if present then ⟨true, (s.notice n).masked, true, 1⟩
          else ⟨false, (s.notice n).masked, false, 0⟩) ∧
      (t.notices.alertLow = true ↔ ∃ n : Notice, (t.notice n).latch = true ∧ (t.notice n).masked = false))

/-! ### Arithmetic and layouts -/

/-- The root, the rounding up and the byte order (R1, R199): the root is the largest whose square does not
exceed its argument, a quotient rounded up the least that covers it, and a value's bytes read back as the
value, signed or not. -/
def Obligations.RootsRoundingAndByteOrder : Prop :=
  (∀ n : Nat, isqrt n * isqrt n ≤ n ∧ n < (isqrt n + 1) * (isqrt n + 1)) ∧
  (∀ a b k : Nat, 0 < b → (divUp a b ≤ k ↔ a ≤ b * k)) ∧
  (∀ k v : Nat, v < 256 ^ k → (beBytes k v).length = k ∧ beNat (beBytes k v) = v) ∧
  (∀ bs : List Byte, beBytes bs.length (beNat bs) = bs) ∧
  ∀ (k : Nat) (v : Int), 0 < k → -(256 ^ k / 2 : Nat) ≤ v → v < (256 ^ k / 2 : Nat) →
    (intBytes k v).length = k ∧ signedOf k (beNat (intBytes k v)) = v

/-- The records of section 10.6 (R4, R22, R32, R122, R199). The ranges of the checked fields: a zone and a mark
are read from a payload, field by field, exactly when every byte and field is in its list or range, an absent
field untested; a geometry record and a bank likewise. The records read back as written: a zone, a mark, a geometry
record and a bank with every field in its range, at their lengths, and a set of notices; and the bytes of a
bank and of a geometry record are the bytes they were read from. -/
def Obligations.RecordsSurviveTheirLayout : Prop :=
  (∀ p : List Byte,
    let presence := fieldAt p 15 1
    let fair : Prop := presence ≤ 3 ∧ fieldAt p 0 4 ≤ 9999989 ∧ fieldAt p 0 4 + 10 ≤ fieldAt p 4 4 ∧
      fieldAt p 4 4 ≤ 9999999 ∧ fieldAt p 8 2 ≤ 5000 ∧ fieldAt p 10 2 ≤ 5000 ∧ fieldAt p 12 2 ≤ 5000 ∧
      1 ≤ fieldAt p 14 1 ∧ fieldAt p 14 1 ≤ 4 ∧
      (presence = 1 ∨ presence = 3 → -1000 ≤ signedAt p 16 2 ∧ signedAt p 16 2 ≤ 1000) ∧
      (presence = 2 ∨ presence = 3 → 30 ≤ fieldAt p 18 2 ∧ fieldAt p 18 2 ≤ 600)
    (¬ fair → checkedZone p = none) ∧
    (fair → checkedZone p = some ⟨fieldAt p 0 4, fieldAt p 4 4, fieldAt p 8 2, fieldAt p 10 2, fieldAt p 12 2,
      fieldAt p 14 1, if presence = 1 ∨ presence = 3 then some (signedAt p 16 2) else none,
      if presence = 2 ∨ presence = 3 then some (fieldAt p 18 2) else none⟩)) ∧
  (∀ (top : Nat) (p : List Byte),
    let sides := fieldAt p 6 1
    let present := fieldAt p 9 1
    let fair : Prop := fieldAt p 0 4 ≤ 9999999 ∧ 1 ≤ fieldAt p 4 2 ∧ fieldAt p 4 2 ≤ 3000 ∧
      fieldAt p 0 4 + fieldAt p 4 2 - 1 ≤ 9999999 ∧ 1 ≤ sides ∧ sides ≤ 3 ∧ fieldAt p 7 2 ≤ top ∧ present ≤ 1 ∧
      (present = 1 → 1 ≤ fieldAt p 10 1 ∧ fieldAt p 10 1 ≤ 50)
    (¬ fair → checkedMark top p = none) ∧
    (fair → checkedMark top p = some ⟨fieldAt p 0 4, fieldAt p 4 2,
      if sides = 1 then .left else if sides = 2 then .right else .both, fieldAt p 7 2,
      if present = 1 then some (fieldAt p 10 1) else none⟩)) ∧
  (∀ p : List Byte,
    let within (off len lo hi : Nat) : Prop := lo ≤ fieldAt p off len ∧ fieldAt p off len ≤ hi
    (checkedGeometry p ≠ none ↔
      within 0 2 10 5000 ∧ within 2 1 100 200 ∧ within 3 2 50 600 ∧ within 5 1 0 50 ∧ within 6 2 50 200 ∧
      within 8 2 200 500 ∧ within 10 3 10000 120000 ∧ within 13 1 50 95 ∧
      20 ≤ fieldAt p 14 1 ∧ fieldAt p 14 1 + 10 ≤ fieldAt p 13 1 ∧ within 15 2 10 300 ∧ within 17 1 0 1 ∧
      within 18 1 0 1 ∧ within 19 1 1 50 ∧ within 20 2 0 2000 ∧ within 22 1 10 200 ∧ within 23 1 3 30 ∧
      within 24 1 10 100 ∧ within 25 2 100 2000 ∧ within 27 1 10 200 ∧ within 28 2 50 350)) ∧
  (∀ b : Bank, b.inRange = true ↔
    b.deadBand ≤ 50 ∧ (∀ k ∈ [b.k0, b.k1, b.k2, b.k3], 1 ≤ k ∧ k ≤ 255) ∧ (∀ d ∈ [b.t0, b.t1, b.t2], d ≤ 31) ∧
    (∀ v ∈ [b.v0, b.v1, b.v2], v ≤ 600) ∧ 10 ≤ b.raiseMax ∧ b.raiseMax ≤ 300 ∧ 10 ≤ b.lowerMax ∧ b.lowerMax ≤ 300 ∧
    1 ≤ b.slewStep ∧ b.slewStep ≤ 100 ∧ 50 ≤ b.loadThreshold ∧ b.loadThreshold ≤ 97) ∧
  (∀ z : ZoneFields, z.inRange = true → (zoneBytes z).length = 20 ∧ checkedZone (zoneBytes z) = some z) ∧
  (∀ (k : Fin 4) (m : MarkFields), m.inRange (Config.drumMax k) = true →
    (markBytes m).length = 11 ∧ checkedMark (Config.drumMax k) (markBytes m) = some m) ∧
  (∀ g : Geometry, g.inRange = true → (geometryBytes g).length = 30 ∧ checkedGeometry (geometryBytes g) = some g) ∧
  (∀ b : Bank, b.inRange = true → (bankBytes b).length = 20 ∧ bankOfBytes (bankBytes b) = b) ∧
  (∀ p : List Byte, p.length = 20 → bankBytes (bankOfBytes p) = p) ∧
  (∀ (p : List Byte) (g : Geometry), p.length = 30 → geometryOfBytes p = some g → geometryBytes g = p) ∧
  ∀ bits : List Bool, bits.length = 19 → ∃ f, noticeSetOf (noticeSetBytes bits) = some f ∧
    ∀ k, f k = bits.getD k false

/-! ### The laws every step keeps -/

/-- Every step keeps the laws of the plan and the station (R3, R4, R5, R16, R21, R22, R23, R32, R37, R57). -/
def Obligations.StepsKeepThePlanInOrder : Prop :=
  ∀ s t : State, Inv s → step s = .next t → ZonesOk t ∧ MarksOk t ∧ GovernanceOk t ∧ StationOk t

/-- Every step keeps the laws of the channels, the sides, the demands and the targets (R48, R64, R73 to R76,
R84, R96, R105, R107, R108, R115). -/
def Obligations.StepsKeepTheSidesInTheirLaws : Prop :=
  ∀ s t : State, Inv s → step s = .next t → ChannelsOk t ∧ SidesOk t ∧ DemandsOk t ∧ TargetsOk t

/-- Every step keeps the governor's law and the material account (R137, R139, R147, R155, R165): milled is
delivered plus fill plus spill, and the housing never holds more than its capacity. -/
def Obligations.StepsKeepTheMaterialAccount : Prop :=
  ∀ s t : State, Inv s → step s = .next t → GovernorOk t ∧ MaterialOk t

/-- Every step keeps the laws of the notices, the links and the free-running timers (R177, R179, R180, R187, R193, R198): a cause is
present exactly while its condition holds, ALERTn is low exactly while no reset is held and an unmasked latch
is set; no timer stands above its period. -/
def Obligations.StepsKeepNoticesAndLinks : Prop :=
  ∀ s t : State, Inv s → step s = .next t → CausesOk t ∧ AlertOk t ∧ LinkOk t ∧ TimersOk t
end

