-- ==== Sys2Proof/Laws/State.lean ====
section
/-! SUPPORT. What each named update of the state leaves alone: one lemma for each update and each field it
does not write, and what a read gives after a write. No later proof has to unfold an update for these. -/
namespace Sys2Proof.Machine

variable (s : State)

/-! ### Plain updates -/

@[simp] theorem State.setSide_plan (x : Side) (v : SideLoop) : (s.setSide x v).plan = s.plan := by cases x <;> rfl
@[simp] theorem State.setSide_station (x : Side) (v : SideLoop) : (s.setSide x v).station = s.station := by cases x <;> rfl
@[simp] theorem State.setSide_monitor (x : Side) (v : SideLoop) : (s.setSide x v).monitor = s.monitor := by cases x <;> rfl
@[simp] theorem State.setSide_banks (x : Side) (v : SideLoop) : (s.setSide x v).banks = s.banks := by cases x <;> rfl
@[simp] theorem State.setSide_governor (x : Side) (v : SideLoop) : (s.setSide x v).governor = s.governor := by cases x <;> rfl
@[simp] theorem State.setSide_conveyor (x : Side) (v : SideLoop) : (s.setSide x v).conveyor = s.conveyor := by cases x <;> rfl
@[simp] theorem State.setSide_notices (x : Side) (v : SideLoop) : (s.setSide x v).notices = s.notices := by cases x <;> rfl
@[simp] theorem State.setSide_link (x : Side) (v : SideLoop) : (s.setSide x v).link = s.link := by cases x <;> rfl
@[simp] theorem State.setSide_sensorLink (x : Side) (v : SideLoop) : (s.setSide x v).sensorLink = s.sensorLink := by cases x <;> rfl
@[simp] theorem State.setSide_timers (x : Side) (v : SideLoop) : (s.setSide x v).timers = s.timers := by cases x <;> rfl
@[simp] theorem State.setSide_heldReset (x : Side) (v : SideLoop) : (s.setSide x v).heldReset = s.heldReset := by cases x <;> rfl
@[simp] theorem State.setSide_pending (x : Side) (v : SideLoop) : (s.setSide x v).pending = s.pending := by cases x <;> rfl

@[simp] theorem State.setContext_plan (x : Side) (c : PlanContext) : (s.setContext x c).plan = s.plan := by cases x <;> rfl
@[simp] theorem State.setContext_station (x : Side) (c : PlanContext) : (s.setContext x c).station = s.station := by cases x <;> rfl
@[simp] theorem State.setContext_monitor (x : Side) (c : PlanContext) : (s.setContext x c).monitor = s.monitor := by cases x <;> rfl
@[simp] theorem State.setContext_banks (x : Side) (c : PlanContext) : (s.setContext x c).banks = s.banks := by cases x <;> rfl
@[simp] theorem State.setContext_governor (x : Side) (c : PlanContext) : (s.setContext x c).governor = s.governor := by cases x <;> rfl
@[simp] theorem State.setContext_conveyor (x : Side) (c : PlanContext) : (s.setContext x c).conveyor = s.conveyor := by cases x <;> rfl
@[simp] theorem State.setContext_notices (x : Side) (c : PlanContext) : (s.setContext x c).notices = s.notices := by cases x <;> rfl
@[simp] theorem State.setContext_link (x : Side) (c : PlanContext) : (s.setContext x c).link = s.link := by cases x <;> rfl
@[simp] theorem State.setContext_sensorLink (x : Side) (c : PlanContext) : (s.setContext x c).sensorLink = s.sensorLink := by cases x <;> rfl
@[simp] theorem State.setContext_timers (x : Side) (c : PlanContext) : (s.setContext x c).timers = s.timers := by cases x <;> rfl
@[simp] theorem State.setContext_heldReset (x : Side) (c : PlanContext) : (s.setContext x c).heldReset = s.heldReset := by cases x <;> rfl
@[simp] theorem State.setContext_pending (x : Side) (c : PlanContext) : (s.setContext x c).pending = s.pending := by cases x <;> rfl

@[simp] theorem State.setChannel_plan (n : Fin 8) (c : Channel) : (s.setChannel n c).plan = s.plan := rfl
@[simp] theorem State.setChannel_station (n : Fin 8) (c : Channel) : (s.setChannel n c).station = s.station := rfl
@[simp] theorem State.setChannel_left (n : Fin 8) (c : Channel) : (s.setChannel n c).left = s.left := rfl
@[simp] theorem State.setChannel_right (n : Fin 8) (c : Channel) : (s.setChannel n c).right = s.right := rfl
@[simp] theorem State.setChannel_banks (n : Fin 8) (c : Channel) : (s.setChannel n c).banks = s.banks := rfl
@[simp] theorem State.setChannel_governor (n : Fin 8) (c : Channel) : (s.setChannel n c).governor = s.governor := rfl
@[simp] theorem State.setChannel_conveyor (n : Fin 8) (c : Channel) : (s.setChannel n c).conveyor = s.conveyor := rfl
@[simp] theorem State.setChannel_notices (n : Fin 8) (c : Channel) : (s.setChannel n c).notices = s.notices := rfl
@[simp] theorem State.setChannel_link (n : Fin 8) (c : Channel) : (s.setChannel n c).link = s.link := rfl
@[simp] theorem State.setChannel_sensorLink (n : Fin 8) (c : Channel) : (s.setChannel n c).sensorLink = s.sensorLink := rfl
@[simp] theorem State.setChannel_timers (n : Fin 8) (c : Channel) : (s.setChannel n c).timers = s.timers := rfl
@[simp] theorem State.setChannel_heldReset (n : Fin 8) (c : Channel) : (s.setChannel n c).heldReset = s.heldReset := rfl
@[simp] theorem State.setChannel_pending (n : Fin 8) (c : Channel) : (s.setChannel n c).pending = s.pending := rfl

@[simp] theorem State.setRole_plan (r : Role) (v : Option (Fin 8)) : (s.setRole r v).plan = s.plan := rfl
@[simp] theorem State.setRole_station (r : Role) (v : Option (Fin 8)) : (s.setRole r v).station = s.station := rfl
@[simp] theorem State.setRole_left (r : Role) (v : Option (Fin 8)) : (s.setRole r v).left = s.left := rfl
@[simp] theorem State.setRole_right (r : Role) (v : Option (Fin 8)) : (s.setRole r v).right = s.right := rfl
@[simp] theorem State.setRole_banks (r : Role) (v : Option (Fin 8)) : (s.setRole r v).banks = s.banks := rfl
@[simp] theorem State.setRole_governor (r : Role) (v : Option (Fin 8)) : (s.setRole r v).governor = s.governor := rfl
@[simp] theorem State.setRole_conveyor (r : Role) (v : Option (Fin 8)) : (s.setRole r v).conveyor = s.conveyor := rfl
@[simp] theorem State.setRole_notices (r : Role) (v : Option (Fin 8)) : (s.setRole r v).notices = s.notices := rfl
@[simp] theorem State.setRole_link (r : Role) (v : Option (Fin 8)) : (s.setRole r v).link = s.link := rfl
@[simp] theorem State.setRole_sensorLink (r : Role) (v : Option (Fin 8)) : (s.setRole r v).sensorLink = s.sensorLink := rfl
@[simp] theorem State.setRole_timers (r : Role) (v : Option (Fin 8)) : (s.setRole r v).timers = s.timers := rfl
@[simp] theorem State.setRole_heldReset (r : Role) (v : Option (Fin 8)) : (s.setRole r v).heldReset = s.heldReset := rfl
@[simp] theorem State.setRole_pending (r : Role) (v : Option (Fin 8)) : (s.setRole r v).pending = s.pending := rfl

@[simp] theorem State.setNotice_plan (n : Notice) (v : NoticeRecord) : (s.setNotice n v).plan = s.plan := rfl
@[simp] theorem State.setNotice_station (n : Notice) (v : NoticeRecord) : (s.setNotice n v).station = s.station := rfl
@[simp] theorem State.setNotice_monitor (n : Notice) (v : NoticeRecord) : (s.setNotice n v).monitor = s.monitor := rfl
@[simp] theorem State.setNotice_left (n : Notice) (v : NoticeRecord) : (s.setNotice n v).left = s.left := rfl
@[simp] theorem State.setNotice_right (n : Notice) (v : NoticeRecord) : (s.setNotice n v).right = s.right := rfl
@[simp] theorem State.setNotice_banks (n : Notice) (v : NoticeRecord) : (s.setNotice n v).banks = s.banks := rfl
@[simp] theorem State.setNotice_governor (n : Notice) (v : NoticeRecord) : (s.setNotice n v).governor = s.governor := rfl
@[simp] theorem State.setNotice_conveyor (n : Notice) (v : NoticeRecord) : (s.setNotice n v).conveyor = s.conveyor := rfl
@[simp] theorem State.setNotice_link (n : Notice) (v : NoticeRecord) : (s.setNotice n v).link = s.link := rfl
@[simp] theorem State.setNotice_sensorLink (n : Notice) (v : NoticeRecord) : (s.setNotice n v).sensorLink = s.sensorLink := rfl
@[simp] theorem State.setNotice_timers (n : Notice) (v : NoticeRecord) : (s.setNotice n v).timers = s.timers := rfl
@[simp] theorem State.setNotice_heldReset (n : Notice) (v : NoticeRecord) : (s.setNotice n v).heldReset = s.heldReset := rfl
@[simp] theorem State.setNotice_pending (n : Notice) (v : NoticeRecord) : (s.setNotice n v).pending = s.pending := rfl

@[simp] theorem State.updateAlert_plan : (s.updateAlert).plan = s.plan := rfl
@[simp] theorem State.updateAlert_station : (s.updateAlert).station = s.station := rfl
@[simp] theorem State.updateAlert_monitor : (s.updateAlert).monitor = s.monitor := rfl
@[simp] theorem State.updateAlert_left : (s.updateAlert).left = s.left := rfl
@[simp] theorem State.updateAlert_right : (s.updateAlert).right = s.right := rfl
@[simp] theorem State.updateAlert_banks : (s.updateAlert).banks = s.banks := rfl
@[simp] theorem State.updateAlert_governor : (s.updateAlert).governor = s.governor := rfl
@[simp] theorem State.updateAlert_conveyor : (s.updateAlert).conveyor = s.conveyor := rfl
@[simp] theorem State.updateAlert_link : (s.updateAlert).link = s.link := rfl
@[simp] theorem State.updateAlert_sensorLink : (s.updateAlert).sensorLink = s.sensorLink := rfl
@[simp] theorem State.updateAlert_timers : (s.updateAlert).timers = s.timers := rfl
@[simp] theorem State.updateAlert_heldReset : (s.updateAlert).heldReset = s.heldReset := rfl
@[simp] theorem State.updateAlert_pending : (s.updateAlert).pending = s.pending := rfl

@[simp] theorem State.raiseNotice_plan (n : Notice) : (s.raiseNotice n).plan = s.plan := rfl
@[simp] theorem State.raiseNotice_station (n : Notice) : (s.raiseNotice n).station = s.station := rfl
@[simp] theorem State.raiseNotice_monitor (n : Notice) : (s.raiseNotice n).monitor = s.monitor := rfl
@[simp] theorem State.raiseNotice_left (n : Notice) : (s.raiseNotice n).left = s.left := rfl
@[simp] theorem State.raiseNotice_right (n : Notice) : (s.raiseNotice n).right = s.right := rfl
@[simp] theorem State.raiseNotice_banks (n : Notice) : (s.raiseNotice n).banks = s.banks := rfl
@[simp] theorem State.raiseNotice_governor (n : Notice) : (s.raiseNotice n).governor = s.governor := rfl
@[simp] theorem State.raiseNotice_conveyor (n : Notice) : (s.raiseNotice n).conveyor = s.conveyor := rfl
@[simp] theorem State.raiseNotice_link (n : Notice) : (s.raiseNotice n).link = s.link := rfl
@[simp] theorem State.raiseNotice_sensorLink (n : Notice) : (s.raiseNotice n).sensorLink = s.sensorLink := rfl
@[simp] theorem State.raiseNotice_timers (n : Notice) : (s.raiseNotice n).timers = s.timers := rfl
@[simp] theorem State.raiseNotice_heldReset (n : Notice) : (s.raiseNotice n).heldReset = s.heldReset := rfl
@[simp] theorem State.raiseNotice_pending (n : Notice) : (s.raiseNotice n).pending = s.pending := rfl

@[simp] theorem State.mapConveyor_plan (f : Conveyor → Conveyor) : (s.mapConveyor f).plan = s.plan := rfl
@[simp] theorem State.mapConveyor_station (f : Conveyor → Conveyor) : (s.mapConveyor f).station = s.station := rfl
@[simp] theorem State.mapConveyor_monitor (f : Conveyor → Conveyor) : (s.mapConveyor f).monitor = s.monitor := rfl
@[simp] theorem State.mapConveyor_left (f : Conveyor → Conveyor) : (s.mapConveyor f).left = s.left := rfl
@[simp] theorem State.mapConveyor_right (f : Conveyor → Conveyor) : (s.mapConveyor f).right = s.right := rfl
@[simp] theorem State.mapConveyor_banks (f : Conveyor → Conveyor) : (s.mapConveyor f).banks = s.banks := rfl
@[simp] theorem State.mapConveyor_governor (f : Conveyor → Conveyor) : (s.mapConveyor f).governor = s.governor := rfl
@[simp] theorem State.mapConveyor_notices (f : Conveyor → Conveyor) : (s.mapConveyor f).notices = s.notices := rfl
@[simp] theorem State.mapConveyor_link (f : Conveyor → Conveyor) : (s.mapConveyor f).link = s.link := rfl
@[simp] theorem State.mapConveyor_sensorLink (f : Conveyor → Conveyor) : (s.mapConveyor f).sensorLink = s.sensorLink := rfl
@[simp] theorem State.mapConveyor_timers (f : Conveyor → Conveyor) : (s.mapConveyor f).timers = s.timers := rfl
@[simp] theorem State.mapConveyor_heldReset (f : Conveyor → Conveyor) : (s.mapConveyor f).heldReset = s.heldReset := rfl
@[simp] theorem State.mapConveyor_pending (f : Conveyor → Conveyor) : (s.mapConveyor f).pending = s.pending := rfl

@[simp] theorem State.limitDemands_plan : (s.limitDemands).plan = s.plan := rfl
@[simp] theorem State.limitDemands_station : (s.limitDemands).station = s.station := rfl
@[simp] theorem State.limitDemands_monitor : (s.limitDemands).monitor = s.monitor := rfl
@[simp] theorem State.limitDemands_banks : (s.limitDemands).banks = s.banks := rfl
@[simp] theorem State.limitDemands_governor : (s.limitDemands).governor = s.governor := rfl
@[simp] theorem State.limitDemands_conveyor : (s.limitDemands).conveyor = s.conveyor := rfl
@[simp] theorem State.limitDemands_notices : (s.limitDemands).notices = s.notices := rfl
@[simp] theorem State.limitDemands_link : (s.limitDemands).link = s.link := rfl
@[simp] theorem State.limitDemands_sensorLink : (s.limitDemands).sensorLink = s.sensorLink := rfl
@[simp] theorem State.limitDemands_timers : (s.limitDemands).timers = s.timers := rfl
@[simp] theorem State.limitDemands_heldReset : (s.limitDemands).heldReset = s.heldReset := rfl
@[simp] theorem State.limitDemands_pending : (s.limitDemands).pending = s.pending := rfl

@[simp] theorem State.setBank_plan (n : BankName) (b : Bank) : (s.setBank n b).plan = s.plan := by cases n <;> rfl
@[simp] theorem State.setBank_station (n : BankName) (b : Bank) : (s.setBank n b).station = s.station := by cases n <;> rfl
@[simp] theorem State.setBank_monitor (n : BankName) (b : Bank) : (s.setBank n b).monitor = s.monitor := by cases n <;> rfl
@[simp] theorem State.setBank_left (n : BankName) (b : Bank) : (s.setBank n b).left = s.left := by cases n <;> rfl
@[simp] theorem State.setBank_right (n : BankName) (b : Bank) : (s.setBank n b).right = s.right := by cases n <;> rfl
@[simp] theorem State.setBank_governor (n : BankName) (b : Bank) : (s.setBank n b).governor = s.governor := by cases n <;> rfl
@[simp] theorem State.setBank_conveyor (n : BankName) (b : Bank) : (s.setBank n b).conveyor = s.conveyor := by cases n <;> rfl
@[simp] theorem State.setBank_notices (n : BankName) (b : Bank) : (s.setBank n b).notices = s.notices := by cases n <;> rfl
@[simp] theorem State.setBank_link (n : BankName) (b : Bank) : (s.setBank n b).link = s.link := by cases n <;> rfl
@[simp] theorem State.setBank_sensorLink (n : BankName) (b : Bank) : (s.setBank n b).sensorLink = s.sensorLink := by cases n <;> rfl
@[simp] theorem State.setBank_timers (n : BankName) (b : Bank) : (s.setBank n b).timers = s.timers := by cases n <;> rfl
@[simp] theorem State.setBank_heldReset (n : BankName) (b : Bank) : (s.setBank n b).heldReset = s.heldReset := by cases n <;> rfl
@[simp] theorem State.setBank_pending (n : BankName) (b : Bank) : (s.setBank n b).pending = s.pending := by cases n <;> rfl

@[simp] theorem State.restartSettle_plan (x : Side) : (s.restartSettle x).plan = s.plan := by cases x <;> rfl
@[simp] theorem State.restartSettle_station (x : Side) : (s.restartSettle x).station = s.station := by cases x <;> rfl
@[simp] theorem State.restartSettle_monitor (x : Side) : (s.restartSettle x).monitor = s.monitor := by cases x <;> rfl
@[simp] theorem State.restartSettle_banks (x : Side) : (s.restartSettle x).banks = s.banks := by cases x <;> rfl
@[simp] theorem State.restartSettle_governor (x : Side) : (s.restartSettle x).governor = s.governor := by cases x <;> rfl
@[simp] theorem State.restartSettle_conveyor (x : Side) : (s.restartSettle x).conveyor = s.conveyor := by cases x <;> rfl
@[simp] theorem State.restartSettle_notices (x : Side) : (s.restartSettle x).notices = s.notices := by cases x <;> rfl
@[simp] theorem State.restartSettle_link (x : Side) : (s.restartSettle x).link = s.link := by cases x <;> rfl
@[simp] theorem State.restartSettle_sensorLink (x : Side) : (s.restartSettle x).sensorLink = s.sensorLink := by cases x <;> rfl
@[simp] theorem State.restartSettle_timers (x : Side) : (s.restartSettle x).timers = s.timers := by cases x <;> rfl
@[simp] theorem State.restartSettle_heldReset (x : Side) : (s.restartSettle x).heldReset = s.heldReset := by cases x <;> rfl
@[simp] theorem State.restartSettle_pending (x : Side) : (s.restartSettle x).pending = s.pending := by cases x <;> rfl

@[simp] theorem State.popped_plan : (s.popped).plan = s.plan := rfl
@[simp] theorem State.popped_station : (s.popped).station = s.station := rfl
@[simp] theorem State.popped_monitor : (s.popped).monitor = s.monitor := rfl
@[simp] theorem State.popped_left : (s.popped).left = s.left := rfl
@[simp] theorem State.popped_right : (s.popped).right = s.right := rfl
@[simp] theorem State.popped_banks : (s.popped).banks = s.banks := rfl
@[simp] theorem State.popped_governor : (s.popped).governor = s.governor := rfl
@[simp] theorem State.popped_conveyor : (s.popped).conveyor = s.conveyor := rfl
@[simp] theorem State.popped_notices : (s.popped).notices = s.notices := rfl
@[simp] theorem State.popped_sensorLink : (s.popped).sensorLink = s.sensorLink := rfl
@[simp] theorem State.popped_timers : (s.popped).timers = s.timers := rfl
@[simp] theorem State.popped_heldReset : (s.popped).heldReset = s.heldReset := rfl
@[simp] theorem State.popped_pending : (s.popped).pending = s.pending := rfl

@[simp] theorem State.respond_plan (q : Requester) (code tag : Byte) (a : Reply) : (s.respond q code tag a).plan = s.plan := rfl
@[simp] theorem State.respond_station (q : Requester) (code tag : Byte) (a : Reply) : (s.respond q code tag a).station = s.station := rfl
@[simp] theorem State.respond_monitor (q : Requester) (code tag : Byte) (a : Reply) : (s.respond q code tag a).monitor = s.monitor := rfl
@[simp] theorem State.respond_left (q : Requester) (code tag : Byte) (a : Reply) : (s.respond q code tag a).left = s.left := rfl
@[simp] theorem State.respond_right (q : Requester) (code tag : Byte) (a : Reply) : (s.respond q code tag a).right = s.right := rfl
@[simp] theorem State.respond_banks (q : Requester) (code tag : Byte) (a : Reply) : (s.respond q code tag a).banks = s.banks := rfl
@[simp] theorem State.respond_governor (q : Requester) (code tag : Byte) (a : Reply) : (s.respond q code tag a).governor = s.governor := rfl
@[simp] theorem State.respond_conveyor (q : Requester) (code tag : Byte) (a : Reply) : (s.respond q code tag a).conveyor = s.conveyor := rfl
@[simp] theorem State.respond_notices (q : Requester) (code tag : Byte) (a : Reply) : (s.respond q code tag a).notices = s.notices := rfl
@[simp] theorem State.respond_sensorLink (q : Requester) (code tag : Byte) (a : Reply) : (s.respond q code tag a).sensorLink = s.sensorLink := rfl
@[simp] theorem State.respond_timers (q : Requester) (code tag : Byte) (a : Reply) : (s.respond q code tag a).timers = s.timers := rfl
@[simp] theorem State.respond_heldReset (q : Requester) (code tag : Byte) (a : Reply) : (s.respond q code tag a).heldReset = s.heldReset := rfl
@[simp] theorem State.respond_pending (q : Requester) (code tag : Byte) (a : Reply) : (s.respond q code tag a).pending = s.pending := rfl

@[simp] theorem State.answers_plan (row : RequestRow) (r : Request) (v : Status) (p : List Byte) (q : Option (List Byte)) : (s.answers row r v p q).plan = s.plan := rfl
@[simp] theorem State.answers_station (row : RequestRow) (r : Request) (v : Status) (p : List Byte) (q : Option (List Byte)) : (s.answers row r v p q).station = s.station := rfl
@[simp] theorem State.answers_monitor (row : RequestRow) (r : Request) (v : Status) (p : List Byte) (q : Option (List Byte)) : (s.answers row r v p q).monitor = s.monitor := rfl
@[simp] theorem State.answers_left (row : RequestRow) (r : Request) (v : Status) (p : List Byte) (q : Option (List Byte)) : (s.answers row r v p q).left = s.left := rfl
@[simp] theorem State.answers_right (row : RequestRow) (r : Request) (v : Status) (p : List Byte) (q : Option (List Byte)) : (s.answers row r v p q).right = s.right := rfl
@[simp] theorem State.answers_banks (row : RequestRow) (r : Request) (v : Status) (p : List Byte) (q : Option (List Byte)) : (s.answers row r v p q).banks = s.banks := rfl
@[simp] theorem State.answers_governor (row : RequestRow) (r : Request) (v : Status) (p : List Byte) (q : Option (List Byte)) : (s.answers row r v p q).governor = s.governor := rfl
@[simp] theorem State.answers_conveyor (row : RequestRow) (r : Request) (v : Status) (p : List Byte) (q : Option (List Byte)) : (s.answers row r v p q).conveyor = s.conveyor := rfl
@[simp] theorem State.answers_notices (row : RequestRow) (r : Request) (v : Status) (p : List Byte) (q : Option (List Byte)) : (s.answers row r v p q).notices = s.notices := rfl
@[simp] theorem State.answers_sensorLink (row : RequestRow) (r : Request) (v : Status) (p : List Byte) (q : Option (List Byte)) : (s.answers row r v p q).sensorLink = s.sensorLink := rfl
@[simp] theorem State.answers_timers (row : RequestRow) (r : Request) (v : Status) (p : List Byte) (q : Option (List Byte)) : (s.answers row r v p q).timers = s.timers := rfl
@[simp] theorem State.answers_heldReset (row : RequestRow) (r : Request) (v : Status) (p : List Byte) (q : Option (List Byte)) : (s.answers row r v p q).heldReset = s.heldReset := rfl
@[simp] theorem State.answers_pending (row : RequestRow) (r : Request) (v : Status) (p : List Byte) (q : Option (List Byte)) : (s.answers row r v p q).pending = s.pending := rfl

@[simp] theorem State.refuses_plan (row : RequestRow) (r : Request) (v : Status) : (s.refuses row r v).plan = s.plan := rfl
@[simp] theorem State.refuses_station (row : RequestRow) (r : Request) (v : Status) : (s.refuses row r v).station = s.station := rfl
@[simp] theorem State.refuses_monitor (row : RequestRow) (r : Request) (v : Status) : (s.refuses row r v).monitor = s.monitor := rfl
@[simp] theorem State.refuses_left (row : RequestRow) (r : Request) (v : Status) : (s.refuses row r v).left = s.left := rfl
@[simp] theorem State.refuses_right (row : RequestRow) (r : Request) (v : Status) : (s.refuses row r v).right = s.right := rfl
@[simp] theorem State.refuses_banks (row : RequestRow) (r : Request) (v : Status) : (s.refuses row r v).banks = s.banks := rfl
@[simp] theorem State.refuses_governor (row : RequestRow) (r : Request) (v : Status) : (s.refuses row r v).governor = s.governor := rfl
@[simp] theorem State.refuses_conveyor (row : RequestRow) (r : Request) (v : Status) : (s.refuses row r v).conveyor = s.conveyor := rfl
@[simp] theorem State.refuses_notices (row : RequestRow) (r : Request) (v : Status) : (s.refuses row r v).notices = s.notices := rfl
@[simp] theorem State.refuses_sensorLink (row : RequestRow) (r : Request) (v : Status) : (s.refuses row r v).sensorLink = s.sensorLink := rfl
@[simp] theorem State.refuses_timers (row : RequestRow) (r : Request) (v : Status) : (s.refuses row r v).timers = s.timers := rfl
@[simp] theorem State.refuses_heldReset (row : RequestRow) (r : Request) (v : Status) : (s.refuses row r v).heldReset = s.heldReset := rfl
@[simp] theorem State.refuses_pending (row : RequestRow) (r : Request) (v : Status) : (s.refuses row r v).pending = s.pending := rfl

@[simp] theorem State.nextSidePeriod_plan (x : Side) : (s.nextSidePeriod x).plan = s.plan := by cases x <;> rfl
@[simp] theorem State.nextSidePeriod_station (x : Side) : (s.nextSidePeriod x).station = s.station := by cases x <;> rfl
@[simp] theorem State.nextSidePeriod_monitor (x : Side) : (s.nextSidePeriod x).monitor = s.monitor := by cases x <;> rfl
@[simp] theorem State.nextSidePeriod_left (x : Side) : (s.nextSidePeriod x).left = s.left := by cases x <;> rfl
@[simp] theorem State.nextSidePeriod_right (x : Side) : (s.nextSidePeriod x).right = s.right := by cases x <;> rfl
@[simp] theorem State.nextSidePeriod_side (x y : Side) : (s.nextSidePeriod x).side y = s.side y := by cases x <;> cases y <;> rfl
@[simp] theorem State.nextSidePeriod_banks (x : Side) : (s.nextSidePeriod x).banks = s.banks := by cases x <;> rfl
@[simp] theorem State.nextSidePeriod_governor (x : Side) : (s.nextSidePeriod x).governor = s.governor := by cases x <;> rfl
@[simp] theorem State.nextSidePeriod_conveyor (x : Side) : (s.nextSidePeriod x).conveyor = s.conveyor := by cases x <;> rfl
@[simp] theorem State.nextSidePeriod_notices (x : Side) : (s.nextSidePeriod x).notices = s.notices := by cases x <;> rfl
@[simp] theorem State.nextSidePeriod_link (x : Side) : (s.nextSidePeriod x).link = s.link := by cases x <;> rfl
@[simp] theorem State.nextSidePeriod_sensorLink (x : Side) : (s.nextSidePeriod x).sensorLink = s.sensorLink := by cases x <;> rfl
@[simp] theorem State.nextSidePeriod_heldReset (x : Side) : (s.nextSidePeriod x).heldReset = s.heldReset := by cases x <;> rfl
@[simp] theorem State.nextSidePeriod_pending (x : Side) : (s.nextSidePeriod x).pending = s.pending := by cases x <;> rfl

/-! ### Notices and causes -/

@[simp] theorem State.tellCause_plan (n : Notice) (v : Bool) : (s.tellCause n v).plan = s.plan := by
  unfold State.tellCause; cases v <;> simp; split <;> simp
@[simp] theorem State.tellCause_station (n : Notice) (v : Bool) : (s.tellCause n v).station = s.station := by
  unfold State.tellCause; cases v <;> simp; split <;> simp
@[simp] theorem State.tellCause_monitor (n : Notice) (v : Bool) : (s.tellCause n v).monitor = s.monitor := by
  unfold State.tellCause; cases v <;> simp; split <;> simp
@[simp] theorem State.tellCause_left (n : Notice) (v : Bool) : (s.tellCause n v).left = s.left := by
  unfold State.tellCause; cases v <;> simp; split <;> simp
@[simp] theorem State.tellCause_right (n : Notice) (v : Bool) : (s.tellCause n v).right = s.right := by
  unfold State.tellCause; cases v <;> simp; split <;> simp
@[simp] theorem State.tellCause_banks (n : Notice) (v : Bool) : (s.tellCause n v).banks = s.banks := by
  unfold State.tellCause; cases v <;> simp; split <;> simp
@[simp] theorem State.tellCause_governor (n : Notice) (v : Bool) : (s.tellCause n v).governor = s.governor := by
  unfold State.tellCause; cases v <;> simp; split <;> simp
@[simp] theorem State.tellCause_conveyor (n : Notice) (v : Bool) : (s.tellCause n v).conveyor = s.conveyor := by
  unfold State.tellCause; cases v <;> simp; split <;> simp
@[simp] theorem State.tellCause_link (n : Notice) (v : Bool) : (s.tellCause n v).link = s.link := by
  unfold State.tellCause; cases v <;> simp; split <;> simp
@[simp] theorem State.tellCause_sensorLink (n : Notice) (v : Bool) : (s.tellCause n v).sensorLink = s.sensorLink := by
  unfold State.tellCause; cases v <;> simp; split <;> simp
@[simp] theorem State.tellCause_timers (n : Notice) (v : Bool) : (s.tellCause n v).timers = s.timers := by
  unfold State.tellCause; cases v <;> simp; split <;> simp
@[simp] theorem State.tellCause_heldReset (n : Notice) (v : Bool) : (s.tellCause n v).heldReset = s.heldReset := by
  unfold State.tellCause; cases v <;> simp; split <;> simp
@[simp] theorem State.tellCause_pending (n : Notice) (v : Bool) : (s.tellCause n v).pending = s.pending := by
  unfold State.tellCause; cases v <;> simp; split <;> simp

@[simp] theorem State.raiseTimes_plan (n : Notice) (k : Nat) : (s.raiseTimes n k).plan = s.plan := by
  induction k generalizing s with
  | zero => rfl
  | succ k ih => simp [State.raiseTimes, ih]
@[simp] theorem State.raiseTimes_station (n : Notice) (k : Nat) : (s.raiseTimes n k).station = s.station := by
  induction k generalizing s with
  | zero => rfl
  | succ k ih => simp [State.raiseTimes, ih]
@[simp] theorem State.raiseTimes_monitor (n : Notice) (k : Nat) : (s.raiseTimes n k).monitor = s.monitor := by
  induction k generalizing s with
  | zero => rfl
  | succ k ih => simp [State.raiseTimes, ih]
@[simp] theorem State.raiseTimes_left (n : Notice) (k : Nat) : (s.raiseTimes n k).left = s.left := by
  induction k generalizing s with
  | zero => rfl
  | succ k ih => simp [State.raiseTimes, ih]
@[simp] theorem State.raiseTimes_right (n : Notice) (k : Nat) : (s.raiseTimes n k).right = s.right := by
  induction k generalizing s with
  | zero => rfl
  | succ k ih => simp [State.raiseTimes, ih]
@[simp] theorem State.raiseTimes_banks (n : Notice) (k : Nat) : (s.raiseTimes n k).banks = s.banks := by
  induction k generalizing s with
  | zero => rfl
  | succ k ih => simp [State.raiseTimes, ih]
@[simp] theorem State.raiseTimes_governor (n : Notice) (k : Nat) : (s.raiseTimes n k).governor = s.governor := by
  induction k generalizing s with
  | zero => rfl
  | succ k ih => simp [State.raiseTimes, ih]
@[simp] theorem State.raiseTimes_conveyor (n : Notice) (k : Nat) : (s.raiseTimes n k).conveyor = s.conveyor := by
  induction k generalizing s with
  | zero => rfl
  | succ k ih => simp [State.raiseTimes, ih]
@[simp] theorem State.raiseTimes_link (n : Notice) (k : Nat) : (s.raiseTimes n k).link = s.link := by
  induction k generalizing s with
  | zero => rfl
  | succ k ih => simp [State.raiseTimes, ih]
@[simp] theorem State.raiseTimes_sensorLink (n : Notice) (k : Nat) : (s.raiseTimes n k).sensorLink = s.sensorLink := by
  induction k generalizing s with
  | zero => rfl
  | succ k ih => simp [State.raiseTimes, ih]
@[simp] theorem State.raiseTimes_timers (n : Notice) (k : Nat) : (s.raiseTimes n k).timers = s.timers := by
  induction k generalizing s with
  | zero => rfl
  | succ k ih => simp [State.raiseTimes, ih]
@[simp] theorem State.raiseTimes_heldReset (n : Notice) (k : Nat) : (s.raiseTimes n k).heldReset = s.heldReset := by
  induction k generalizing s with
  | zero => rfl
  | succ k ih => simp [State.raiseTimes, ih]
@[simp] theorem State.raiseTimes_pending (n : Notice) (k : Nat) : (s.raiseTimes n k).pending = s.pending := by
  induction k generalizing s with
  | zero => rfl
  | succ k ih => simp [State.raiseTimes, ih]

@[simp] theorem State.tellPlanGap_plan : (s.tellPlanGap).plan = s.plan := by simp [State.tellPlanGap]
@[simp] theorem State.tellPlanGap_station : (s.tellPlanGap).station = s.station := by simp [State.tellPlanGap]
@[simp] theorem State.tellPlanGap_monitor : (s.tellPlanGap).monitor = s.monitor := by simp [State.tellPlanGap]
@[simp] theorem State.tellPlanGap_left : (s.tellPlanGap).left = s.left := by simp [State.tellPlanGap]
@[simp] theorem State.tellPlanGap_right : (s.tellPlanGap).right = s.right := by simp [State.tellPlanGap]
@[simp] theorem State.tellPlanGap_banks : (s.tellPlanGap).banks = s.banks := by simp [State.tellPlanGap]
@[simp] theorem State.tellPlanGap_governor : (s.tellPlanGap).governor = s.governor := by simp [State.tellPlanGap]
@[simp] theorem State.tellPlanGap_conveyor : (s.tellPlanGap).conveyor = s.conveyor := by simp [State.tellPlanGap]
@[simp] theorem State.tellPlanGap_link : (s.tellPlanGap).link = s.link := by simp [State.tellPlanGap]
@[simp] theorem State.tellPlanGap_sensorLink : (s.tellPlanGap).sensorLink = s.sensorLink := by simp [State.tellPlanGap]
@[simp] theorem State.tellPlanGap_timers : (s.tellPlanGap).timers = s.timers := by simp [State.tellPlanGap]
@[simp] theorem State.tellPlanGap_heldReset : (s.tellPlanGap).heldReset = s.heldReset := by simp [State.tellPlanGap]
@[simp] theorem State.tellPlanGap_pending : (s.tellPlanGap).pending = s.pending := by simp [State.tellPlanGap]

@[simp] theorem State.tellStationInvalid_plan : (s.tellStationInvalid).plan = s.plan := by simp [State.tellStationInvalid]
@[simp] theorem State.tellStationInvalid_station : (s.tellStationInvalid).station = s.station := by simp [State.tellStationInvalid]
@[simp] theorem State.tellStationInvalid_monitor : (s.tellStationInvalid).monitor = s.monitor := by simp [State.tellStationInvalid]
@[simp] theorem State.tellStationInvalid_left : (s.tellStationInvalid).left = s.left := by simp [State.tellStationInvalid]
@[simp] theorem State.tellStationInvalid_right : (s.tellStationInvalid).right = s.right := by simp [State.tellStationInvalid]
@[simp] theorem State.tellStationInvalid_banks : (s.tellStationInvalid).banks = s.banks := by simp [State.tellStationInvalid]
@[simp] theorem State.tellStationInvalid_governor : (s.tellStationInvalid).governor = s.governor := by simp [State.tellStationInvalid]
@[simp] theorem State.tellStationInvalid_conveyor : (s.tellStationInvalid).conveyor = s.conveyor := by simp [State.tellStationInvalid]
@[simp] theorem State.tellStationInvalid_link : (s.tellStationInvalid).link = s.link := by simp [State.tellStationInvalid]
@[simp] theorem State.tellStationInvalid_sensorLink : (s.tellStationInvalid).sensorLink = s.sensorLink := by simp [State.tellStationInvalid]
@[simp] theorem State.tellStationInvalid_timers : (s.tellStationInvalid).timers = s.timers := by simp [State.tellStationInvalid]
@[simp] theorem State.tellStationInvalid_heldReset : (s.tellStationInvalid).heldReset = s.heldReset := by simp [State.tellStationInvalid]
@[simp] theorem State.tellStationInvalid_pending : (s.tellStationInvalid).pending = s.pending := by simp [State.tellStationInvalid]

@[simp] theorem State.tellSensorLost_plan : (s.tellSensorLost).plan = s.plan := by simp [State.tellSensorLost]
@[simp] theorem State.tellSensorLost_station : (s.tellSensorLost).station = s.station := by simp [State.tellSensorLost]
@[simp] theorem State.tellSensorLost_monitor : (s.tellSensorLost).monitor = s.monitor := by simp [State.tellSensorLost]
@[simp] theorem State.tellSensorLost_left : (s.tellSensorLost).left = s.left := by simp [State.tellSensorLost]
@[simp] theorem State.tellSensorLost_right : (s.tellSensorLost).right = s.right := by simp [State.tellSensorLost]
@[simp] theorem State.tellSensorLost_banks : (s.tellSensorLost).banks = s.banks := by simp [State.tellSensorLost]
@[simp] theorem State.tellSensorLost_governor : (s.tellSensorLost).governor = s.governor := by simp [State.tellSensorLost]
@[simp] theorem State.tellSensorLost_conveyor : (s.tellSensorLost).conveyor = s.conveyor := by simp [State.tellSensorLost]
@[simp] theorem State.tellSensorLost_link : (s.tellSensorLost).link = s.link := by simp [State.tellSensorLost]
@[simp] theorem State.tellSensorLost_sensorLink : (s.tellSensorLost).sensorLink = s.sensorLink := by simp [State.tellSensorLost]
@[simp] theorem State.tellSensorLost_timers : (s.tellSensorLost).timers = s.timers := by simp [State.tellSensorLost]
@[simp] theorem State.tellSensorLost_heldReset : (s.tellSensorLost).heldReset = s.heldReset := by simp [State.tellSensorLost]
@[simp] theorem State.tellSensorLost_pending : (s.tellSensorLost).pending = s.pending := by simp [State.tellSensorLost]

@[simp] theorem State.tellSideFrozen_plan : (s.tellSideFrozen).plan = s.plan := by simp [State.tellSideFrozen]
@[simp] theorem State.tellSideFrozen_station : (s.tellSideFrozen).station = s.station := by simp [State.tellSideFrozen]
@[simp] theorem State.tellSideFrozen_monitor : (s.tellSideFrozen).monitor = s.monitor := by simp [State.tellSideFrozen]
@[simp] theorem State.tellSideFrozen_left : (s.tellSideFrozen).left = s.left := by simp [State.tellSideFrozen]
@[simp] theorem State.tellSideFrozen_right : (s.tellSideFrozen).right = s.right := by simp [State.tellSideFrozen]
@[simp] theorem State.tellSideFrozen_banks : (s.tellSideFrozen).banks = s.banks := by simp [State.tellSideFrozen]
@[simp] theorem State.tellSideFrozen_governor : (s.tellSideFrozen).governor = s.governor := by simp [State.tellSideFrozen]
@[simp] theorem State.tellSideFrozen_conveyor : (s.tellSideFrozen).conveyor = s.conveyor := by simp [State.tellSideFrozen]
@[simp] theorem State.tellSideFrozen_link : (s.tellSideFrozen).link = s.link := by simp [State.tellSideFrozen]
@[simp] theorem State.tellSideFrozen_sensorLink : (s.tellSideFrozen).sensorLink = s.sensorLink := by simp [State.tellSideFrozen]
@[simp] theorem State.tellSideFrozen_timers : (s.tellSideFrozen).timers = s.timers := by simp [State.tellSideFrozen]
@[simp] theorem State.tellSideFrozen_heldReset : (s.tellSideFrozen).heldReset = s.heldReset := by simp [State.tellSideFrozen]
@[simp] theorem State.tellSideFrozen_pending : (s.tellSideFrozen).pending = s.pending := by simp [State.tellSideFrozen]

@[simp] theorem State.tellFillHigh_plan : (s.tellFillHigh).plan = s.plan := by simp [State.tellFillHigh]
@[simp] theorem State.tellFillHigh_station : (s.tellFillHigh).station = s.station := by simp [State.tellFillHigh]
@[simp] theorem State.tellFillHigh_monitor : (s.tellFillHigh).monitor = s.monitor := by simp [State.tellFillHigh]
@[simp] theorem State.tellFillHigh_left : (s.tellFillHigh).left = s.left := by simp [State.tellFillHigh]
@[simp] theorem State.tellFillHigh_right : (s.tellFillHigh).right = s.right := by simp [State.tellFillHigh]
@[simp] theorem State.tellFillHigh_banks : (s.tellFillHigh).banks = s.banks := by simp [State.tellFillHigh]
@[simp] theorem State.tellFillHigh_governor : (s.tellFillHigh).governor = s.governor := by simp [State.tellFillHigh]
@[simp] theorem State.tellFillHigh_conveyor : (s.tellFillHigh).conveyor = s.conveyor := by simp [State.tellFillHigh]
@[simp] theorem State.tellFillHigh_link : (s.tellFillHigh).link = s.link := by simp [State.tellFillHigh]
@[simp] theorem State.tellFillHigh_sensorLink : (s.tellFillHigh).sensorLink = s.sensorLink := by simp [State.tellFillHigh]
@[simp] theorem State.tellFillHigh_timers : (s.tellFillHigh).timers = s.timers := by simp [State.tellFillHigh]
@[simp] theorem State.tellFillHigh_heldReset : (s.tellFillHigh).heldReset = s.heldReset := by simp [State.tellFillHigh]
@[simp] theorem State.tellFillHigh_pending : (s.tellFillHigh).pending = s.pending := by simp [State.tellFillHigh]

@[simp] theorem State.tellTruckFull_plan : (s.tellTruckFull).plan = s.plan := by simp [State.tellTruckFull]
@[simp] theorem State.tellTruckFull_station : (s.tellTruckFull).station = s.station := by simp [State.tellTruckFull]
@[simp] theorem State.tellTruckFull_monitor : (s.tellTruckFull).monitor = s.monitor := by simp [State.tellTruckFull]
@[simp] theorem State.tellTruckFull_left : (s.tellTruckFull).left = s.left := by simp [State.tellTruckFull]
@[simp] theorem State.tellTruckFull_right : (s.tellTruckFull).right = s.right := by simp [State.tellTruckFull]
@[simp] theorem State.tellTruckFull_banks : (s.tellTruckFull).banks = s.banks := by simp [State.tellTruckFull]
@[simp] theorem State.tellTruckFull_governor : (s.tellTruckFull).governor = s.governor := by simp [State.tellTruckFull]
@[simp] theorem State.tellTruckFull_conveyor : (s.tellTruckFull).conveyor = s.conveyor := by simp [State.tellTruckFull]
@[simp] theorem State.tellTruckFull_link : (s.tellTruckFull).link = s.link := by simp [State.tellTruckFull]
@[simp] theorem State.tellTruckFull_sensorLink : (s.tellTruckFull).sensorLink = s.sensorLink := by simp [State.tellTruckFull]
@[simp] theorem State.tellTruckFull_timers : (s.tellTruckFull).timers = s.timers := by simp [State.tellTruckFull]
@[simp] theorem State.tellTruckFull_heldReset : (s.tellTruckFull).heldReset = s.heldReset := by simp [State.tellTruckFull]
@[simp] theorem State.tellTruckFull_pending : (s.tellTruckFull).pending = s.pending := by simp [State.tellTruckFull]

@[simp] theorem State.tellBeltBlocked_plan : (s.tellBeltBlocked).plan = s.plan := by simp [State.tellBeltBlocked]
@[simp] theorem State.tellBeltBlocked_station : (s.tellBeltBlocked).station = s.station := by simp [State.tellBeltBlocked]
@[simp] theorem State.tellBeltBlocked_monitor : (s.tellBeltBlocked).monitor = s.monitor := by simp [State.tellBeltBlocked]
@[simp] theorem State.tellBeltBlocked_left : (s.tellBeltBlocked).left = s.left := by simp [State.tellBeltBlocked]
@[simp] theorem State.tellBeltBlocked_right : (s.tellBeltBlocked).right = s.right := by simp [State.tellBeltBlocked]
@[simp] theorem State.tellBeltBlocked_banks : (s.tellBeltBlocked).banks = s.banks := by simp [State.tellBeltBlocked]
@[simp] theorem State.tellBeltBlocked_governor : (s.tellBeltBlocked).governor = s.governor := by simp [State.tellBeltBlocked]
@[simp] theorem State.tellBeltBlocked_conveyor : (s.tellBeltBlocked).conveyor = s.conveyor := by simp [State.tellBeltBlocked]
@[simp] theorem State.tellBeltBlocked_link : (s.tellBeltBlocked).link = s.link := by simp [State.tellBeltBlocked]
@[simp] theorem State.tellBeltBlocked_sensorLink : (s.tellBeltBlocked).sensorLink = s.sensorLink := by simp [State.tellBeltBlocked]
@[simp] theorem State.tellBeltBlocked_timers : (s.tellBeltBlocked).timers = s.timers := by simp [State.tellBeltBlocked]
@[simp] theorem State.tellBeltBlocked_heldReset : (s.tellBeltBlocked).heldReset = s.heldReset := by simp [State.tellBeltBlocked]
@[simp] theorem State.tellBeltBlocked_pending : (s.tellBeltBlocked).pending = s.pending := by simp [State.tellBeltBlocked]

@[simp] theorem State.tellLinkLost_plan : (s.tellLinkLost).plan = s.plan := by simp [State.tellLinkLost]
@[simp] theorem State.tellLinkLost_station : (s.tellLinkLost).station = s.station := by simp [State.tellLinkLost]
@[simp] theorem State.tellLinkLost_monitor : (s.tellLinkLost).monitor = s.monitor := by simp [State.tellLinkLost]
@[simp] theorem State.tellLinkLost_left : (s.tellLinkLost).left = s.left := by simp [State.tellLinkLost]
@[simp] theorem State.tellLinkLost_right : (s.tellLinkLost).right = s.right := by simp [State.tellLinkLost]
@[simp] theorem State.tellLinkLost_banks : (s.tellLinkLost).banks = s.banks := by simp [State.tellLinkLost]
@[simp] theorem State.tellLinkLost_governor : (s.tellLinkLost).governor = s.governor := by simp [State.tellLinkLost]
@[simp] theorem State.tellLinkLost_conveyor : (s.tellLinkLost).conveyor = s.conveyor := by simp [State.tellLinkLost]
@[simp] theorem State.tellLinkLost_link : (s.tellLinkLost).link = s.link := by simp [State.tellLinkLost]
@[simp] theorem State.tellLinkLost_sensorLink : (s.tellLinkLost).sensorLink = s.sensorLink := by simp [State.tellLinkLost]
@[simp] theorem State.tellLinkLost_timers : (s.tellLinkLost).timers = s.timers := by simp [State.tellLinkLost]
@[simp] theorem State.tellLinkLost_heldReset : (s.tellLinkLost).heldReset = s.heldReset := by simp [State.tellLinkLost]
@[simp] theorem State.tellLinkLost_pending : (s.tellLinkLost).pending = s.pending := by simp [State.tellLinkLost]

@[simp] theorem State.tellAllCauses_plan : (s.tellAllCauses).plan = s.plan := by simp [State.tellAllCauses]
@[simp] theorem State.tellAllCauses_station : (s.tellAllCauses).station = s.station := by simp [State.tellAllCauses]
@[simp] theorem State.tellAllCauses_monitor : (s.tellAllCauses).monitor = s.monitor := by simp [State.tellAllCauses]
@[simp] theorem State.tellAllCauses_left : (s.tellAllCauses).left = s.left := by simp [State.tellAllCauses]
@[simp] theorem State.tellAllCauses_right : (s.tellAllCauses).right = s.right := by simp [State.tellAllCauses]
@[simp] theorem State.tellAllCauses_banks : (s.tellAllCauses).banks = s.banks := by simp [State.tellAllCauses]
@[simp] theorem State.tellAllCauses_governor : (s.tellAllCauses).governor = s.governor := by simp [State.tellAllCauses]
@[simp] theorem State.tellAllCauses_conveyor : (s.tellAllCauses).conveyor = s.conveyor := by simp [State.tellAllCauses]
@[simp] theorem State.tellAllCauses_link : (s.tellAllCauses).link = s.link := by simp [State.tellAllCauses]
@[simp] theorem State.tellAllCauses_sensorLink : (s.tellAllCauses).sensorLink = s.sensorLink := by simp [State.tellAllCauses]
@[simp] theorem State.tellAllCauses_timers : (s.tellAllCauses).timers = s.timers := by simp [State.tellAllCauses]
@[simp] theorem State.tellAllCauses_heldReset : (s.tellAllCauses).heldReset = s.heldReset := by simp [State.tellAllCauses]
@[simp] theorem State.tellAllCauses_pending : (s.tellAllCauses).pending = s.pending := by simp [State.tellAllCauses]

/-! ### Governance -/

@[simp] theorem State.handClass_plan (m : Nat) : (s.handClass m).plan = s.plan := by unfold State.handClass; split <;> simp
@[simp] theorem State.handClass_station (m : Nat) : (s.handClass m).station = s.station := by unfold State.handClass; split <;> simp
@[simp] theorem State.handClass_monitor (m : Nat) : (s.handClass m).monitor = s.monitor := by unfold State.handClass; split <;> simp
@[simp] theorem State.handClass_governor (m : Nat) : (s.handClass m).governor = s.governor := by unfold State.handClass; split <;> simp
@[simp] theorem State.handClass_conveyor (m : Nat) : (s.handClass m).conveyor = s.conveyor := by unfold State.handClass; split <;> simp
@[simp] theorem State.handClass_notices (m : Nat) : (s.handClass m).notices = s.notices := by unfold State.handClass; split <;> simp
@[simp] theorem State.handClass_link (m : Nat) : (s.handClass m).link = s.link := by unfold State.handClass; split <;> simp
@[simp] theorem State.handClass_sensorLink (m : Nat) : (s.handClass m).sensorLink = s.sensorLink := by unfold State.handClass; split <;> simp
@[simp] theorem State.handClass_timers (m : Nat) : (s.handClass m).timers = s.timers := by unfold State.handClass; split <;> simp
@[simp] theorem State.handClass_heldReset (m : Nat) : (s.handClass m).heldReset = s.heldReset := by unfold State.handClass; split <;> simp
@[simp] theorem State.handClass_pending (m : Nat) : (s.handClass m).pending = s.pending := by unfold State.handClass; split <;> simp

@[simp] theorem State.captureSide_plan (z : Zone) (x : Side) : (s.captureSide z x).plan = s.plan := by simp only [State.captureSide]; split <;> simp
@[simp] theorem State.captureSide_station (z : Zone) (x : Side) : (s.captureSide z x).station = s.station := by simp only [State.captureSide]; split <;> simp
@[simp] theorem State.captureSide_monitor (z : Zone) (x : Side) : (s.captureSide z x).monitor = s.monitor := by simp only [State.captureSide]; split <;> simp
@[simp] theorem State.captureSide_banks (z : Zone) (x : Side) : (s.captureSide z x).banks = s.banks := by simp only [State.captureSide]; split <;> simp
@[simp] theorem State.captureSide_governor (z : Zone) (x : Side) : (s.captureSide z x).governor = s.governor := by simp only [State.captureSide]; split <;> simp
@[simp] theorem State.captureSide_conveyor (z : Zone) (x : Side) : (s.captureSide z x).conveyor = s.conveyor := by simp only [State.captureSide]; split <;> simp
@[simp] theorem State.captureSide_notices (z : Zone) (x : Side) : (s.captureSide z x).notices = s.notices := by simp only [State.captureSide]; split <;> simp
@[simp] theorem State.captureSide_link (z : Zone) (x : Side) : (s.captureSide z x).link = s.link := by simp only [State.captureSide]; split <;> simp
@[simp] theorem State.captureSide_sensorLink (z : Zone) (x : Side) : (s.captureSide z x).sensorLink = s.sensorLink := by simp only [State.captureSide]; split <;> simp
@[simp] theorem State.captureSide_timers (z : Zone) (x : Side) : (s.captureSide z x).timers = s.timers := by simp only [State.captureSide]; split <;> simp
@[simp] theorem State.captureSide_heldReset (z : Zone) (x : Side) : (s.captureSide z x).heldReset = s.heldReset := by simp only [State.captureSide]; split <;> simp
@[simp] theorem State.captureSide_pending (z : Zone) (x : Side) : (s.captureSide z x).pending = s.pending := by simp only [State.captureSide]; split <;> simp

@[simp] theorem State.releaseSide_plan (x : Side) : (s.releaseSide x).plan = s.plan := by simp only [State.releaseSide]; split <;> simp
@[simp] theorem State.releaseSide_station (x : Side) : (s.releaseSide x).station = s.station := by simp only [State.releaseSide]; split <;> simp
@[simp] theorem State.releaseSide_monitor (x : Side) : (s.releaseSide x).monitor = s.monitor := by simp only [State.releaseSide]; split <;> simp
@[simp] theorem State.releaseSide_banks (x : Side) : (s.releaseSide x).banks = s.banks := by simp only [State.releaseSide]; split <;> simp
@[simp] theorem State.releaseSide_governor (x : Side) : (s.releaseSide x).governor = s.governor := by simp only [State.releaseSide]; split <;> simp
@[simp] theorem State.releaseSide_conveyor (x : Side) : (s.releaseSide x).conveyor = s.conveyor := by simp only [State.releaseSide]; split <;> simp
@[simp] theorem State.releaseSide_notices (x : Side) : (s.releaseSide x).notices = s.notices := by simp only [State.releaseSide]; split <;> simp
@[simp] theorem State.releaseSide_link (x : Side) : (s.releaseSide x).link = s.link := by simp only [State.releaseSide]; split <;> simp
@[simp] theorem State.releaseSide_sensorLink (x : Side) : (s.releaseSide x).sensorLink = s.sensorLink := by simp only [State.releaseSide]; split <;> simp
@[simp] theorem State.releaseSide_timers (x : Side) : (s.releaseSide x).timers = s.timers := by simp only [State.releaseSide]; split <;> simp
@[simp] theorem State.releaseSide_heldReset (x : Side) : (s.releaseSide x).heldReset = s.heldReset := by simp only [State.releaseSide]; split <;> simp
@[simp] theorem State.releaseSide_pending (x : Side) : (s.releaseSide x).pending = s.pending := by simp only [State.releaseSide]; split <;> simp

@[simp] theorem State.takeGovernance_station (z : Zone) : (s.takeGovernance z).station = s.station := by simp [State.takeGovernance]
@[simp] theorem State.takeGovernance_monitor (z : Zone) : (s.takeGovernance z).monitor = s.monitor := by simp [State.takeGovernance]
@[simp] theorem State.takeGovernance_governor (z : Zone) : (s.takeGovernance z).governor = s.governor := by simp [State.takeGovernance]
@[simp] theorem State.takeGovernance_conveyor (z : Zone) : (s.takeGovernance z).conveyor = s.conveyor := by simp [State.takeGovernance]
@[simp] theorem State.takeGovernance_link (z : Zone) : (s.takeGovernance z).link = s.link := by simp [State.takeGovernance]
@[simp] theorem State.takeGovernance_sensorLink (z : Zone) : (s.takeGovernance z).sensorLink = s.sensorLink := by simp [State.takeGovernance]
@[simp] theorem State.takeGovernance_timers (z : Zone) : (s.takeGovernance z).timers = s.timers := by simp [State.takeGovernance]
@[simp] theorem State.takeGovernance_heldReset (z : Zone) : (s.takeGovernance z).heldReset = s.heldReset := by simp [State.takeGovernance]
@[simp] theorem State.takeGovernance_pending (z : Zone) : (s.takeGovernance z).pending = s.pending := by simp [State.takeGovernance]
@[simp] theorem State.takeGovernance_zones (z : Zone) : (s.takeGovernance z).plan.zones = s.plan.zones := by simp [State.takeGovernance]
@[simp] theorem State.takeGovernance_marks (z : Zone) : (s.takeGovernance z).plan.marks = s.plan.marks := by simp [State.takeGovernance]

@[simp] theorem State.loseGovernance_station : (s.loseGovernance).station = s.station := by simp [State.loseGovernance]
@[simp] theorem State.loseGovernance_monitor : (s.loseGovernance).monitor = s.monitor := by simp [State.loseGovernance]
@[simp] theorem State.loseGovernance_banks : (s.loseGovernance).banks = s.banks := by simp [State.loseGovernance]
@[simp] theorem State.loseGovernance_governor : (s.loseGovernance).governor = s.governor := by simp [State.loseGovernance]
@[simp] theorem State.loseGovernance_conveyor : (s.loseGovernance).conveyor = s.conveyor := by simp [State.loseGovernance]
@[simp] theorem State.loseGovernance_link : (s.loseGovernance).link = s.link := by simp [State.loseGovernance]
@[simp] theorem State.loseGovernance_sensorLink : (s.loseGovernance).sensorLink = s.sensorLink := by simp [State.loseGovernance]
@[simp] theorem State.loseGovernance_timers : (s.loseGovernance).timers = s.timers := by simp [State.loseGovernance]
@[simp] theorem State.loseGovernance_heldReset : (s.loseGovernance).heldReset = s.heldReset := by simp [State.loseGovernance]
@[simp] theorem State.loseGovernance_pending : (s.loseGovernance).pending = s.pending := by simp [State.loseGovernance]
@[simp] theorem State.loseGovernance_zones : (s.loseGovernance).plan.zones = s.plan.zones := by simp [State.loseGovernance]
@[simp] theorem State.loseGovernance_marks : (s.loseGovernance).plan.marks = s.plan.marks := by simp [State.loseGovernance]

@[simp] theorem State.reevaluate_station (a : Option Nat) : (s.reevaluate a).station = s.station := by
  unfold State.reevaluate; split <;> split <;> simp
@[simp] theorem State.reevaluate_monitor (a : Option Nat) : (s.reevaluate a).monitor = s.monitor := by
  unfold State.reevaluate; split <;> split <;> simp
@[simp] theorem State.reevaluate_governor (a : Option Nat) : (s.reevaluate a).governor = s.governor := by
  unfold State.reevaluate; split <;> split <;> simp
@[simp] theorem State.reevaluate_conveyor (a : Option Nat) : (s.reevaluate a).conveyor = s.conveyor := by
  unfold State.reevaluate; split <;> split <;> simp
@[simp] theorem State.reevaluate_link (a : Option Nat) : (s.reevaluate a).link = s.link := by
  unfold State.reevaluate; split <;> split <;> simp
@[simp] theorem State.reevaluate_sensorLink (a : Option Nat) : (s.reevaluate a).sensorLink = s.sensorLink := by
  unfold State.reevaluate; split <;> split <;> simp
@[simp] theorem State.reevaluate_timers (a : Option Nat) : (s.reevaluate a).timers = s.timers := by
  unfold State.reevaluate; split <;> split <;> simp
@[simp] theorem State.reevaluate_heldReset (a : Option Nat) : (s.reevaluate a).heldReset = s.heldReset := by
  unfold State.reevaluate; split <;> split <;> simp
@[simp] theorem State.reevaluate_pending (a : Option Nat) : (s.reevaluate a).pending = s.pending := by
  unfold State.reevaluate; split <;> split <;> simp
@[simp] theorem State.reevaluate_zones (a : Option Nat) : (s.reevaluate a).plan.zones = s.plan.zones := by
  unfold State.reevaluate; split <;> split <;> simp
@[simp] theorem State.reevaluate_marks (a : Option Nat) : (s.reevaluate a).plan.marks = s.plan.marks := by
  unfold State.reevaluate; split <;> split <;> simp

@[simp] theorem State.stationChanged_station (old : StationCounter) : (s.stationChanged old).station = s.station := by
  simp only [State.stationChanged]; split
  · rfl
  · split <;> simp
@[simp] theorem State.stationChanged_monitor (old : StationCounter) : (s.stationChanged old).monitor = s.monitor := by
  simp only [State.stationChanged]; split
  · rfl
  · split <;> simp
@[simp] theorem State.stationChanged_governor (old : StationCounter) : (s.stationChanged old).governor = s.governor := by
  simp only [State.stationChanged]; split
  · rfl
  · split <;> simp
@[simp] theorem State.stationChanged_conveyor (old : StationCounter) : (s.stationChanged old).conveyor = s.conveyor := by
  simp only [State.stationChanged]; split
  · rfl
  · split <;> simp
@[simp] theorem State.stationChanged_link (old : StationCounter) : (s.stationChanged old).link = s.link := by
  simp only [State.stationChanged]; split
  · rfl
  · split <;> simp
@[simp] theorem State.stationChanged_sensorLink (old : StationCounter) : (s.stationChanged old).sensorLink = s.sensorLink := by
  simp only [State.stationChanged]; split
  · rfl
  · split <;> simp
@[simp] theorem State.stationChanged_timers (old : StationCounter) : (s.stationChanged old).timers = s.timers := by
  simp only [State.stationChanged]; split
  · rfl
  · split <;> simp
@[simp] theorem State.stationChanged_heldReset (old : StationCounter) : (s.stationChanged old).heldReset = s.heldReset := by
  simp only [State.stationChanged]; split
  · rfl
  · split <;> simp
@[simp] theorem State.stationChanged_pending (old : StationCounter) : (s.stationChanged old).pending = s.pending := by
  simp only [State.stationChanged]; split
  · rfl
  · split <;> simp
@[simp] theorem State.stationChanged_zones (old : StationCounter) : (s.stationChanged old).plan.zones = s.plan.zones := by
  simp only [State.stationChanged]; split
  · rfl
  · split <;> simp

/-! ### Leaving AUTO -/

@[simp] theorem State.leaveAuto_station (x : Side) (v : SideState) : (s.leaveAuto x v).station = s.station := by simp [State.leaveAuto]
@[simp] theorem State.leaveAuto_monitor (x : Side) (v : SideState) : (s.leaveAuto x v).monitor = s.monitor := by simp [State.leaveAuto]
@[simp] theorem State.leaveAuto_banks (x : Side) (v : SideState) : (s.leaveAuto x v).banks = s.banks := by simp [State.leaveAuto]
@[simp] theorem State.leaveAuto_governor (x : Side) (v : SideState) : (s.leaveAuto x v).governor = s.governor := by simp [State.leaveAuto]
@[simp] theorem State.leaveAuto_conveyor (x : Side) (v : SideState) : (s.leaveAuto x v).conveyor = s.conveyor := by simp [State.leaveAuto]
@[simp] theorem State.leaveAuto_link (x : Side) (v : SideState) : (s.leaveAuto x v).link = s.link := by simp [State.leaveAuto]
@[simp] theorem State.leaveAuto_sensorLink (x : Side) (v : SideState) : (s.leaveAuto x v).sensorLink = s.sensorLink := by simp [State.leaveAuto]
@[simp] theorem State.leaveAuto_timers (x : Side) (v : SideState) : (s.leaveAuto x v).timers = s.timers := by simp [State.leaveAuto]
@[simp] theorem State.leaveAuto_heldReset (x : Side) (v : SideState) : (s.leaveAuto x v).heldReset = s.heldReset := by simp [State.leaveAuto]
@[simp] theorem State.leaveAuto_pending (x : Side) (v : SideState) : (s.leaveAuto x v).pending = s.pending := by simp [State.leaveAuto]
@[simp] theorem State.leaveAuto_zones (x : Side) (v : SideState) : (s.leaveAuto x v).plan.zones = s.plan.zones := by simp [State.leaveAuto]
@[simp] theorem State.leaveAuto_governing (x : Side) (v : SideState) : (s.leaveAuto x v).plan.governing = s.plan.governing := by simp [State.leaveAuto]

@[simp] theorem State.freeze_station (x : Side) : (s.freeze x).station = s.station := by simp [State.freeze]
@[simp] theorem State.freeze_monitor (x : Side) : (s.freeze x).monitor = s.monitor := by simp [State.freeze]
@[simp] theorem State.freeze_banks (x : Side) : (s.freeze x).banks = s.banks := by simp [State.freeze]
@[simp] theorem State.freeze_governor (x : Side) : (s.freeze x).governor = s.governor := by simp [State.freeze]
@[simp] theorem State.freeze_conveyor (x : Side) : (s.freeze x).conveyor = s.conveyor := by simp [State.freeze]
@[simp] theorem State.freeze_link (x : Side) : (s.freeze x).link = s.link := by simp [State.freeze]
@[simp] theorem State.freeze_sensorLink (x : Side) : (s.freeze x).sensorLink = s.sensorLink := by simp [State.freeze]
@[simp] theorem State.freeze_timers (x : Side) : (s.freeze x).timers = s.timers := by simp [State.freeze]
@[simp] theorem State.freeze_heldReset (x : Side) : (s.freeze x).heldReset = s.heldReset := by simp [State.freeze]
@[simp] theorem State.freeze_pending (x : Side) : (s.freeze x).pending = s.pending := by simp [State.freeze]
@[simp] theorem State.freeze_zones (x : Side) : (s.freeze x).plan.zones = s.plan.zones := by simp [State.freeze]
@[simp] theorem State.freeze_governing (x : Side) : (s.freeze x).plan.governing = s.plan.governing := by simp [State.freeze]

@[simp] theorem State.failReferencing_plan (x : Side) : (s.failReferencing x).plan = s.plan := by simp [State.failReferencing]
@[simp] theorem State.failReferencing_station (x : Side) : (s.failReferencing x).station = s.station := by simp [State.failReferencing]
@[simp] theorem State.failReferencing_monitor (x : Side) : (s.failReferencing x).monitor = s.monitor := by simp [State.failReferencing]
@[simp] theorem State.failReferencing_banks (x : Side) : (s.failReferencing x).banks = s.banks := by simp [State.failReferencing]
@[simp] theorem State.failReferencing_governor (x : Side) : (s.failReferencing x).governor = s.governor := by simp [State.failReferencing]
@[simp] theorem State.failReferencing_conveyor (x : Side) : (s.failReferencing x).conveyor = s.conveyor := by simp [State.failReferencing]
@[simp] theorem State.failReferencing_link (x : Side) : (s.failReferencing x).link = s.link := by simp [State.failReferencing]
@[simp] theorem State.failReferencing_sensorLink (x : Side) : (s.failReferencing x).sensorLink = s.sensorLink := by simp [State.failReferencing]
@[simp] theorem State.failReferencing_timers (x : Side) : (s.failReferencing x).timers = s.timers := by simp [State.failReferencing]
@[simp] theorem State.failReferencing_heldReset (x : Side) : (s.failReferencing x).heldReset = s.heldReset := by simp [State.failReferencing]
@[simp] theorem State.failReferencing_pending (x : Side) : (s.failReferencing x).pending = s.pending := by simp [State.failReferencing]

@[simp] theorem State.gradeLost_station (x : Side) : (s.gradeLost x).station = s.station := by unfold State.gradeLost; split <;> simp
@[simp] theorem State.gradeLost_monitor (x : Side) : (s.gradeLost x).monitor = s.monitor := by unfold State.gradeLost; split <;> simp
@[simp] theorem State.gradeLost_banks (x : Side) : (s.gradeLost x).banks = s.banks := by unfold State.gradeLost; split <;> simp
@[simp] theorem State.gradeLost_governor (x : Side) : (s.gradeLost x).governor = s.governor := by unfold State.gradeLost; split <;> simp
@[simp] theorem State.gradeLost_conveyor (x : Side) : (s.gradeLost x).conveyor = s.conveyor := by unfold State.gradeLost; split <;> simp
@[simp] theorem State.gradeLost_link (x : Side) : (s.gradeLost x).link = s.link := by unfold State.gradeLost; split <;> simp
@[simp] theorem State.gradeLost_sensorLink (x : Side) : (s.gradeLost x).sensorLink = s.sensorLink := by unfold State.gradeLost; split <;> simp
@[simp] theorem State.gradeLost_timers (x : Side) : (s.gradeLost x).timers = s.timers := by unfold State.gradeLost; split <;> simp
@[simp] theorem State.gradeLost_heldReset (x : Side) : (s.gradeLost x).heldReset = s.heldReset := by unfold State.gradeLost; split <;> simp
@[simp] theorem State.gradeLost_pending (x : Side) : (s.gradeLost x).pending = s.pending := by unfold State.gradeLost; split <;> simp
@[simp] theorem State.gradeLost_zones (x : Side) : (s.gradeLost x).plan.zones = s.plan.zones := by unfold State.gradeLost; split <;> simp
@[simp] theorem State.gradeLost_governing (x : Side) : (s.gradeLost x).plan.governing = s.plan.governing := by unfold State.gradeLost; split <;> simp

@[simp] theorem State.slopeLost_station (x : Side) : (s.slopeLost x).station = s.station := by unfold State.slopeLost; split <;> simp
@[simp] theorem State.slopeLost_monitor (x : Side) : (s.slopeLost x).monitor = s.monitor := by unfold State.slopeLost; split <;> simp
@[simp] theorem State.slopeLost_banks (x : Side) : (s.slopeLost x).banks = s.banks := by unfold State.slopeLost; split <;> simp
@[simp] theorem State.slopeLost_governor (x : Side) : (s.slopeLost x).governor = s.governor := by unfold State.slopeLost; split <;> simp
@[simp] theorem State.slopeLost_conveyor (x : Side) : (s.slopeLost x).conveyor = s.conveyor := by unfold State.slopeLost; split <;> simp
@[simp] theorem State.slopeLost_link (x : Side) : (s.slopeLost x).link = s.link := by unfold State.slopeLost; split <;> simp
@[simp] theorem State.slopeLost_sensorLink (x : Side) : (s.slopeLost x).sensorLink = s.sensorLink := by unfold State.slopeLost; split <;> simp
@[simp] theorem State.slopeLost_timers (x : Side) : (s.slopeLost x).timers = s.timers := by unfold State.slopeLost; split <;> simp
@[simp] theorem State.slopeLost_heldReset (x : Side) : (s.slopeLost x).heldReset = s.heldReset := by unfold State.slopeLost; split <;> simp
@[simp] theorem State.slopeLost_pending (x : Side) : (s.slopeLost x).pending = s.pending := by unfold State.slopeLost; split <;> simp
@[simp] theorem State.slopeLost_zones (x : Side) : (s.slopeLost x).plan.zones = s.plan.zones := by unfold State.slopeLost; split <;> simp
@[simp] theorem State.slopeLost_governing (x : Side) : (s.slopeLost x).plan.governing = s.plan.governing := by unfold State.slopeLost; split <;> simp

@[simp] theorem State.loadLost_plan (x : Side) : (s.loadLost x).plan = s.plan := by unfold State.loadLost; split <;> simp
@[simp] theorem State.loadLost_station (x : Side) : (s.loadLost x).station = s.station := by unfold State.loadLost; split <;> simp
@[simp] theorem State.loadLost_monitor (x : Side) : (s.loadLost x).monitor = s.monitor := by unfold State.loadLost; split <;> simp
@[simp] theorem State.loadLost_banks (x : Side) : (s.loadLost x).banks = s.banks := by unfold State.loadLost; split <;> simp
@[simp] theorem State.loadLost_governor (x : Side) : (s.loadLost x).governor = s.governor := by unfold State.loadLost; split <;> simp
@[simp] theorem State.loadLost_conveyor (x : Side) : (s.loadLost x).conveyor = s.conveyor := by unfold State.loadLost; split <;> simp
@[simp] theorem State.loadLost_link (x : Side) : (s.loadLost x).link = s.link := by unfold State.loadLost; split <;> simp
@[simp] theorem State.loadLost_sensorLink (x : Side) : (s.loadLost x).sensorLink = s.sensorLink := by unfold State.loadLost; split <;> simp
@[simp] theorem State.loadLost_timers (x : Side) : (s.loadLost x).timers = s.timers := by unfold State.loadLost; split <;> simp
@[simp] theorem State.loadLost_heldReset (x : Side) : (s.loadLost x).heldReset = s.heldReset := by unfold State.loadLost; split <;> simp
@[simp] theorem State.loadLost_pending (x : Side) : (s.loadLost x).pending = s.pending := by unfold State.loadLost; split <;> simp

@[simp] theorem State.handOver_station (n : Fin 8) (c : Channel) : (s.handOver n c).station = s.station := by
  simp only [State.handOver]; split
  · rfl
  · split <;> (try split) <;> simp
@[simp] theorem State.handOver_monitor (n : Fin 8) (c : Channel) : (s.handOver n c).monitor = s.monitor := by
  simp only [State.handOver]; split
  · rfl
  · split <;> (try split) <;> simp
@[simp] theorem State.handOver_banks (n : Fin 8) (c : Channel) : (s.handOver n c).banks = s.banks := by
  simp only [State.handOver]; split
  · rfl
  · split <;> (try split) <;> simp
@[simp] theorem State.handOver_governor (n : Fin 8) (c : Channel) : (s.handOver n c).governor = s.governor := by
  simp only [State.handOver]; split
  · rfl
  · split <;> (try split) <;> simp
@[simp] theorem State.handOver_conveyor (n : Fin 8) (c : Channel) : (s.handOver n c).conveyor = s.conveyor := by
  simp only [State.handOver]; split
  · rfl
  · split <;> (try split) <;> simp
@[simp] theorem State.handOver_link (n : Fin 8) (c : Channel) : (s.handOver n c).link = s.link := by
  simp only [State.handOver]; split
  · rfl
  · split <;> (try split) <;> simp
@[simp] theorem State.handOver_sensorLink (n : Fin 8) (c : Channel) : (s.handOver n c).sensorLink = s.sensorLink := by
  simp only [State.handOver]; split
  · rfl
  · split <;> (try split) <;> simp
@[simp] theorem State.handOver_timers (n : Fin 8) (c : Channel) : (s.handOver n c).timers = s.timers := by
  simp only [State.handOver]; split
  · rfl
  · split <;> (try split) <;> simp
@[simp] theorem State.handOver_heldReset (n : Fin 8) (c : Channel) : (s.handOver n c).heldReset = s.heldReset := by
  simp only [State.handOver]; split
  · rfl
  · split <;> (try split) <;> simp
@[simp] theorem State.handOver_pending (n : Fin 8) (c : Channel) : (s.handOver n c).pending = s.pending := by
  simp only [State.handOver]; split
  · rfl
  · split <;> (try split) <;> simp
@[simp] theorem State.handOver_zones (n : Fin 8) (c : Channel) : (s.handOver n c).plan.zones = s.plan.zones := by
  simp only [State.handOver]; split
  · rfl
  · split <;> (try split) <;> simp
@[simp] theorem State.handOver_governing (n : Fin 8) (c : Channel) : (s.handOver n c).plan.governing = s.plan.governing := by
  simp only [State.handOver]; split
  · rfl
  · split <;> (try split) <;> simp

/-! ### The links -/

@[simp] theorem State.consoleHeard_plan : (s.consoleHeard).plan = s.plan := by simp [State.consoleHeard]
@[simp] theorem State.consoleHeard_station : (s.consoleHeard).station = s.station := by simp [State.consoleHeard]
@[simp] theorem State.consoleHeard_monitor : (s.consoleHeard).monitor = s.monitor := by simp [State.consoleHeard]
@[simp] theorem State.consoleHeard_left : (s.consoleHeard).left = s.left := by simp [State.consoleHeard]
@[simp] theorem State.consoleHeard_right : (s.consoleHeard).right = s.right := by simp [State.consoleHeard]
@[simp] theorem State.consoleHeard_banks : (s.consoleHeard).banks = s.banks := by simp [State.consoleHeard]
@[simp] theorem State.consoleHeard_governor : (s.consoleHeard).governor = s.governor := by simp [State.consoleHeard]
@[simp] theorem State.consoleHeard_conveyor : (s.consoleHeard).conveyor = s.conveyor := by simp [State.consoleHeard]
@[simp] theorem State.consoleHeard_sensorLink : (s.consoleHeard).sensorLink = s.sensorLink := by simp [State.consoleHeard]
@[simp] theorem State.consoleHeard_timers : (s.consoleHeard).timers = s.timers := by simp [State.consoleHeard]
@[simp] theorem State.consoleHeard_heldReset : (s.consoleHeard).heldReset = s.heldReset := by simp [State.consoleHeard]
@[simp] theorem State.consoleHeard_pending : (s.consoleHeard).pending = s.pending := by simp [State.consoleHeard]

@[simp] theorem State.heard_plan (q : Requester) : (s.heard q).plan = s.plan := by unfold State.heard; split <;> simp
@[simp] theorem State.heard_station (q : Requester) : (s.heard q).station = s.station := by unfold State.heard; split <;> simp
@[simp] theorem State.heard_monitor (q : Requester) : (s.heard q).monitor = s.monitor := by unfold State.heard; split <;> simp
@[simp] theorem State.heard_left (q : Requester) : (s.heard q).left = s.left := by unfold State.heard; split <;> simp
@[simp] theorem State.heard_right (q : Requester) : (s.heard q).right = s.right := by unfold State.heard; split <;> simp
@[simp] theorem State.heard_banks (q : Requester) : (s.heard q).banks = s.banks := by unfold State.heard; split <;> simp
@[simp] theorem State.heard_governor (q : Requester) : (s.heard q).governor = s.governor := by unfold State.heard; split <;> simp
@[simp] theorem State.heard_conveyor (q : Requester) : (s.heard q).conveyor = s.conveyor := by unfold State.heard; split <;> simp
@[simp] theorem State.heard_sensorLink (q : Requester) : (s.heard q).sensorLink = s.sensorLink := by unfold State.heard; split <;> simp
@[simp] theorem State.heard_timers (q : Requester) : (s.heard q).timers = s.timers := by unfold State.heard; split <;> simp
@[simp] theorem State.heard_heldReset (q : Requester) : (s.heard q).heldReset = s.heldReset := by unfold State.heard; split <;> simp
@[simp] theorem State.heard_pending (q : Requester) : (s.heard q).pending = s.pending := by unfold State.heard; split <;> simp

/-! ### A read after a write -/

@[simp] theorem State.setSide_side_same (x : Side) (v : SideLoop) : (s.setSide x v).side x = v := by cases x <;> rfl

@[simp] theorem State.setSide_side_other (x : Side) (v : SideLoop) :
    (s.setSide x v).side (otherSide x) = s.side (otherSide x) := by cases x <;> rfl

theorem State.setSide_side_ne {x y : Side} (h : y ≠ x) (v : SideLoop) : (s.setSide x v).side y = s.side y := by
  cases x <;> cases y <;> first | rfl | exact absurd rfl h

@[simp] theorem State.setSide_setSide (x : Side) (v w : SideLoop) : (s.setSide x v).setSide x w = s.setSide x w := by
  cases x <;> rfl

@[simp] theorem State.setSide_self (x : Side) : s.setSide x (s.side x) = s := by cases x <;> rfl

@[simp] theorem State.setContext_side_same (x : Side) (c : PlanContext) :
    (s.setContext x c).side x = { s.side x with context := c } := by cases x <;> rfl

@[simp] theorem State.setContext_side_other (x : Side) (c : PlanContext) :
    (s.setContext x c).side (otherSide x) = s.side (otherSide x) := by cases x <;> rfl

@[simp] theorem State.setChannel_channel_same (n : Fin 8) (c : Channel) : (s.setChannel n c).channel n = c := by
  simp [State.setChannel, State.channel]

theorem State.setChannel_channel_ne {n k : Fin 8} (h : k ≠ n) (c : Channel) :
    (s.setChannel n c).channel k = s.channel k := by
  have : n.val ≠ k.val := fun e => h (Fin.ext e.symm)
  simp [State.setChannel, State.channel, this]

@[simp] theorem State.setChannel_roles (n : Fin 8) (c : Channel) :
    (s.setChannel n c).monitor.roles = s.monitor.roles := rfl

@[simp] theorem State.setRole_channel (r : Role) (v : Option (Fin 8)) (n : Fin 8) :
    (s.setRole r v).channel n = s.channel n := rfl

@[simp] theorem Roles.get_set_same (a : Roles) (r : Role) (v : Option (Fin 8)) : (a.set r v).get r = v := by
  cases r <;> rfl

theorem Roles.get_set_ne (a : Roles) {q r : Role} (h : q ≠ r) (v : Option (Fin 8)) : (a.set r v).get q = a.get q := by
  cases r <;> cases q <;> first | rfl | exact absurd rfl h

theorem Notice.number_injective {m n : Notice} (h : m.number = n.number) : m = n := by
  cases m <;> cases n <;> first | rfl | exact absurd h (by decide)

@[simp] theorem State.setNotice_notice_same (n : Notice) (v : NoticeRecord) : (s.setNotice n v).notice n = v := by
  simp [State.setNotice, State.notice]

theorem State.setNotice_notice_ne {n k : Notice} (h : k ≠ n) (v : NoticeRecord) :
    (s.setNotice n v).notice k = s.notice k := by
  have : n.number.val ≠ k.number.val := fun e => h (Notice.number_injective (Fin.ext e.symm))
  simp [State.setNotice, State.notice, this]

@[simp] theorem State.updateAlert_notice (n : Notice) : s.updateAlert.notice n = s.notice n := rfl

@[simp] theorem State.popped_queue : s.popped.link.queue = s.link.queue.tail := rfl

/-! ### Reads of the untouched parts -/

@[simp] theorem State.setSide_channel (x : Side) (v : SideLoop) (k : Fin 8) : (s.setSide x v).channel k = s.channel k := by simp [State.channel]
@[simp] theorem State.setSide_roleChannel (x : Side) (v : SideLoop) (q : Role) : (s.setSide x v).roleChannel q = s.roleChannel q := by simp [State.roleChannel, State.channel]
@[simp] theorem State.setSide_notice (x : Side) (v : SideLoop) (k : Notice) : (s.setSide x v).notice k = s.notice k := by simp [State.notice]
@[simp] theorem State.setSide_bank (x : Side) (v : SideLoop) (b : BankName) : (s.setSide x v).bank b = s.bank b := by simp [State.bank]
@[simp] theorem State.setSide_activeBank (x : Side) (v : SideLoop) : (s.setSide x v).activeBank = s.activeBank := by simp [State.activeBank, State.bank]
@[simp] theorem State.setSide_maxDepth (x : Side) (v : SideLoop) : (s.setSide x v).maxDepth = s.maxDepth := by simp [State.maxDepth]
@[simp] theorem State.setSide_measuredDepth (x : Side) (v : SideLoop) (y : Side) : (s.setSide x v).measuredDepth y = s.measuredDepth y := by simp [State.measuredDepth, State.roleChannel, State.channel]
@[simp] theorem State.setSide_crossSlope (x : Side) (v : SideLoop) : (s.setSide x v).crossSlope = s.crossSlope := by simp [State.crossSlope, State.roleChannel, State.channel]
@[simp] theorem State.setSide_drumLoad (x : Side) (v : SideLoop) : (s.setSide x v).drumLoad = s.drumLoad := by simp [State.drumLoad, State.roleChannel, State.channel]
@[simp] theorem State.setSide_beltPressure (x : Side) (v : SideLoop) : (s.setSide x v).beltPressure = s.beltPressure := by simp [State.beltPressure, State.roleChannel, State.channel]
@[simp] theorem State.setSide_isReferenced (x : Side) (v : SideLoop) (y : Side) : (s.setSide x v).isReferenced y = s.isReferenced y := by simp [State.isReferenced, State.roleChannel, State.channel]
@[simp] theorem State.setSide_roleHeld (x : Side) (v : SideLoop) (k : Fin 8) : (s.setSide x v).roleHeld k = s.roleHeld k := by simp [State.roleHeld]
@[simp] theorem State.setSide_sensorLost (x : Side) (v : SideLoop) : (s.setSide x v).sensorLost = s.sensorLost := by simp [State.sensorLost, State.roleChannel, State.channel]

@[simp] theorem State.setContext_channel (x : Side) (c : PlanContext) (k : Fin 8) : (s.setContext x c).channel k = s.channel k := by simp [State.channel]
@[simp] theorem State.setContext_roleChannel (x : Side) (c : PlanContext) (q : Role) : (s.setContext x c).roleChannel q = s.roleChannel q := by simp [State.roleChannel, State.channel]
@[simp] theorem State.setContext_notice (x : Side) (c : PlanContext) (k : Notice) : (s.setContext x c).notice k = s.notice k := by simp [State.notice]
@[simp] theorem State.setContext_bank (x : Side) (c : PlanContext) (b : BankName) : (s.setContext x c).bank b = s.bank b := by simp [State.bank]
@[simp] theorem State.setContext_activeBank (x : Side) (c : PlanContext) : (s.setContext x c).activeBank = s.activeBank := by simp [State.activeBank, State.bank]
@[simp] theorem State.setContext_maxDepth (x : Side) (c : PlanContext) : (s.setContext x c).maxDepth = s.maxDepth := by simp [State.maxDepth]
@[simp] theorem State.setContext_measuredDepth (x : Side) (c : PlanContext) (y : Side) : (s.setContext x c).measuredDepth y = s.measuredDepth y := by simp [State.measuredDepth, State.roleChannel, State.channel]
@[simp] theorem State.setContext_crossSlope (x : Side) (c : PlanContext) : (s.setContext x c).crossSlope = s.crossSlope := by simp [State.crossSlope, State.roleChannel, State.channel]
@[simp] theorem State.setContext_drumLoad (x : Side) (c : PlanContext) : (s.setContext x c).drumLoad = s.drumLoad := by simp [State.drumLoad, State.roleChannel, State.channel]
@[simp] theorem State.setContext_beltPressure (x : Side) (c : PlanContext) : (s.setContext x c).beltPressure = s.beltPressure := by simp [State.beltPressure, State.roleChannel, State.channel]
@[simp] theorem State.setContext_isReferenced (x : Side) (c : PlanContext) (y : Side) : (s.setContext x c).isReferenced y = s.isReferenced y := by simp [State.isReferenced, State.roleChannel, State.channel]
@[simp] theorem State.setContext_roleHeld (x : Side) (c : PlanContext) (k : Fin 8) : (s.setContext x c).roleHeld k = s.roleHeld k := by simp [State.roleHeld]
@[simp] theorem State.setContext_sensorLost (x : Side) (c : PlanContext) : (s.setContext x c).sensorLost = s.sensorLost := by simp [State.sensorLost, State.roleChannel, State.channel]

@[simp] theorem State.setNotice_side (n : Notice) (v : NoticeRecord) (y : Side) : (s.setNotice n v).side y = s.side y := rfl
@[simp] theorem State.setNotice_channel (n : Notice) (v : NoticeRecord) (k : Fin 8) : (s.setNotice n v).channel k = s.channel k := rfl
@[simp] theorem State.setNotice_roleChannel (n : Notice) (v : NoticeRecord) (q : Role) : (s.setNotice n v).roleChannel q = s.roleChannel q := rfl
@[simp] theorem State.setNotice_bank (n : Notice) (v : NoticeRecord) (b : BankName) : (s.setNotice n v).bank b = s.bank b := rfl
@[simp] theorem State.setNotice_activeBank (n : Notice) (v : NoticeRecord) : (s.setNotice n v).activeBank = s.activeBank := rfl
@[simp] theorem State.setNotice_maxDepth (n : Notice) (v : NoticeRecord) : (s.setNotice n v).maxDepth = s.maxDepth := rfl
@[simp] theorem State.setNotice_measuredDepth (n : Notice) (v : NoticeRecord) (y : Side) : (s.setNotice n v).measuredDepth y = s.measuredDepth y := rfl
@[simp] theorem State.setNotice_crossSlope (n : Notice) (v : NoticeRecord) : (s.setNotice n v).crossSlope = s.crossSlope := rfl
@[simp] theorem State.setNotice_drumLoad (n : Notice) (v : NoticeRecord) : (s.setNotice n v).drumLoad = s.drumLoad := rfl
@[simp] theorem State.setNotice_beltPressure (n : Notice) (v : NoticeRecord) : (s.setNotice n v).beltPressure = s.beltPressure := rfl
@[simp] theorem State.setNotice_isReferenced (n : Notice) (v : NoticeRecord) (y : Side) : (s.setNotice n v).isReferenced y = s.isReferenced y := rfl
@[simp] theorem State.setNotice_roleHeld (n : Notice) (v : NoticeRecord) (k : Fin 8) : (s.setNotice n v).roleHeld k = s.roleHeld k := rfl
@[simp] theorem State.setNotice_sensorLost (n : Notice) (v : NoticeRecord) : (s.setNotice n v).sensorLost = s.sensorLost := rfl

@[simp] theorem State.raiseNotice_side (n : Notice) (y : Side) : (s.raiseNotice n).side y = s.side y := rfl
@[simp] theorem State.raiseNotice_channel (n : Notice) (k : Fin 8) : (s.raiseNotice n).channel k = s.channel k := rfl
@[simp] theorem State.raiseNotice_roleChannel (n : Notice) (q : Role) : (s.raiseNotice n).roleChannel q = s.roleChannel q := rfl
@[simp] theorem State.raiseNotice_bank (n : Notice) (b : BankName) : (s.raiseNotice n).bank b = s.bank b := rfl
@[simp] theorem State.raiseNotice_activeBank (n : Notice) : (s.raiseNotice n).activeBank = s.activeBank := rfl
@[simp] theorem State.raiseNotice_maxDepth (n : Notice) : (s.raiseNotice n).maxDepth = s.maxDepth := rfl
@[simp] theorem State.raiseNotice_measuredDepth (n : Notice) (y : Side) : (s.raiseNotice n).measuredDepth y = s.measuredDepth y := rfl
@[simp] theorem State.raiseNotice_crossSlope (n : Notice) : (s.raiseNotice n).crossSlope = s.crossSlope := rfl
@[simp] theorem State.raiseNotice_drumLoad (n : Notice) : (s.raiseNotice n).drumLoad = s.drumLoad := rfl
@[simp] theorem State.raiseNotice_beltPressure (n : Notice) : (s.raiseNotice n).beltPressure = s.beltPressure := rfl
@[simp] theorem State.raiseNotice_isReferenced (n : Notice) (y : Side) : (s.raiseNotice n).isReferenced y = s.isReferenced y := rfl
@[simp] theorem State.raiseNotice_roleHeld (n : Notice) (k : Fin 8) : (s.raiseNotice n).roleHeld k = s.roleHeld k := rfl
@[simp] theorem State.raiseNotice_sensorLost (n : Notice) : (s.raiseNotice n).sensorLost = s.sensorLost := rfl

@[simp] theorem State.tellCause_side (n : Notice) (v : Bool) (y : Side) : (s.tellCause n v).side y = s.side y := by simp [State.side]
@[simp] theorem State.tellCause_channel (n : Notice) (v : Bool) (k : Fin 8) : (s.tellCause n v).channel k = s.channel k := by simp [State.channel]
@[simp] theorem State.tellCause_roleChannel (n : Notice) (v : Bool) (q : Role) : (s.tellCause n v).roleChannel q = s.roleChannel q := by simp [State.roleChannel, State.channel]
@[simp] theorem State.tellCause_bank (n : Notice) (v : Bool) (b : BankName) : (s.tellCause n v).bank b = s.bank b := by simp [State.bank]
@[simp] theorem State.tellCause_activeBank (n : Notice) (v : Bool) : (s.tellCause n v).activeBank = s.activeBank := by simp [State.activeBank, State.bank]
@[simp] theorem State.tellCause_maxDepth (n : Notice) (v : Bool) : (s.tellCause n v).maxDepth = s.maxDepth := by simp [State.maxDepth]
@[simp] theorem State.tellCause_measuredDepth (n : Notice) (v : Bool) (y : Side) : (s.tellCause n v).measuredDepth y = s.measuredDepth y := by simp [State.measuredDepth, State.roleChannel, State.channel]
@[simp] theorem State.tellCause_crossSlope (n : Notice) (v : Bool) : (s.tellCause n v).crossSlope = s.crossSlope := by simp [State.crossSlope, State.roleChannel, State.channel]
@[simp] theorem State.tellCause_drumLoad (n : Notice) (v : Bool) : (s.tellCause n v).drumLoad = s.drumLoad := by simp [State.drumLoad, State.roleChannel, State.channel]
@[simp] theorem State.tellCause_beltPressure (n : Notice) (v : Bool) : (s.tellCause n v).beltPressure = s.beltPressure := by simp [State.beltPressure, State.roleChannel, State.channel]
@[simp] theorem State.tellCause_isReferenced (n : Notice) (v : Bool) (y : Side) : (s.tellCause n v).isReferenced y = s.isReferenced y := by simp [State.isReferenced, State.roleChannel, State.channel]
@[simp] theorem State.tellCause_roleHeld (n : Notice) (v : Bool) (k : Fin 8) : (s.tellCause n v).roleHeld k = s.roleHeld k := by simp [State.roleHeld]
@[simp] theorem State.tellCause_sensorLost (n : Notice) (v : Bool) : (s.tellCause n v).sensorLost = s.sensorLost := by simp [State.sensorLost, State.roleChannel, State.channel]

@[simp] theorem State.mapConveyor_side (f : Conveyor → Conveyor) (y : Side) : (s.mapConveyor f).side y = s.side y := rfl
@[simp] theorem State.mapConveyor_channel (f : Conveyor → Conveyor) (k : Fin 8) : (s.mapConveyor f).channel k = s.channel k := rfl
@[simp] theorem State.mapConveyor_roleChannel (f : Conveyor → Conveyor) (q : Role) : (s.mapConveyor f).roleChannel q = s.roleChannel q := rfl
@[simp] theorem State.mapConveyor_notice (f : Conveyor → Conveyor) (k : Notice) : (s.mapConveyor f).notice k = s.notice k := rfl
@[simp] theorem State.mapConveyor_bank (f : Conveyor → Conveyor) (b : BankName) : (s.mapConveyor f).bank b = s.bank b := rfl
@[simp] theorem State.mapConveyor_activeBank (f : Conveyor → Conveyor) : (s.mapConveyor f).activeBank = s.activeBank := rfl
@[simp] theorem State.mapConveyor_maxDepth (f : Conveyor → Conveyor) : (s.mapConveyor f).maxDepth = s.maxDepth := rfl
@[simp] theorem State.mapConveyor_measuredDepth (f : Conveyor → Conveyor) (y : Side) : (s.mapConveyor f).measuredDepth y = s.measuredDepth y := rfl
@[simp] theorem State.mapConveyor_crossSlope (f : Conveyor → Conveyor) : (s.mapConveyor f).crossSlope = s.crossSlope := rfl
@[simp] theorem State.mapConveyor_drumLoad (f : Conveyor → Conveyor) : (s.mapConveyor f).drumLoad = s.drumLoad := rfl
@[simp] theorem State.mapConveyor_beltPressure (f : Conveyor → Conveyor) : (s.mapConveyor f).beltPressure = s.beltPressure := rfl
@[simp] theorem State.mapConveyor_isReferenced (f : Conveyor → Conveyor) (y : Side) : (s.mapConveyor f).isReferenced y = s.isReferenced y := rfl
@[simp] theorem State.mapConveyor_roleHeld (f : Conveyor → Conveyor) (k : Fin 8) : (s.mapConveyor f).roleHeld k = s.roleHeld k := rfl
@[simp] theorem State.mapConveyor_sensorLost (f : Conveyor → Conveyor) : (s.mapConveyor f).sensorLost = s.sensorLost := rfl

@[simp] theorem State.popped_side (y : Side) : (s.popped).side y = s.side y := rfl
@[simp] theorem State.popped_channel (k : Fin 8) : (s.popped).channel k = s.channel k := rfl
@[simp] theorem State.popped_roleChannel (q : Role) : (s.popped).roleChannel q = s.roleChannel q := rfl
@[simp] theorem State.popped_notice (k : Notice) : (s.popped).notice k = s.notice k := rfl
@[simp] theorem State.popped_bank (b : BankName) : (s.popped).bank b = s.bank b := rfl
@[simp] theorem State.popped_activeBank : (s.popped).activeBank = s.activeBank := rfl
@[simp] theorem State.popped_maxDepth : (s.popped).maxDepth = s.maxDepth := rfl
@[simp] theorem State.popped_measuredDepth (y : Side) : (s.popped).measuredDepth y = s.measuredDepth y := rfl
@[simp] theorem State.popped_crossSlope : (s.popped).crossSlope = s.crossSlope := rfl
@[simp] theorem State.popped_drumLoad : (s.popped).drumLoad = s.drumLoad := rfl
@[simp] theorem State.popped_beltPressure : (s.popped).beltPressure = s.beltPressure := rfl
@[simp] theorem State.popped_isReferenced (y : Side) : (s.popped).isReferenced y = s.isReferenced y := rfl
@[simp] theorem State.popped_roleHeld (k : Fin 8) : (s.popped).roleHeld k = s.roleHeld k := rfl
@[simp] theorem State.popped_sensorLost : (s.popped).sensorLost = s.sensorLost := rfl

@[simp] theorem State.setChannel_side (n : Fin 8) (c : Channel) (y : Side) : (s.setChannel n c).side y = s.side y := rfl
@[simp] theorem State.setChannel_notice (n : Fin 8) (c : Channel) (k : Notice) : (s.setChannel n c).notice k = s.notice k := rfl
@[simp] theorem State.setChannel_bank (n : Fin 8) (c : Channel) (b : BankName) : (s.setChannel n c).bank b = s.bank b := rfl
@[simp] theorem State.setChannel_activeBank (n : Fin 8) (c : Channel) : (s.setChannel n c).activeBank = s.activeBank := rfl
@[simp] theorem State.setChannel_maxDepth (n : Fin 8) (c : Channel) : (s.setChannel n c).maxDepth = s.maxDepth := rfl

@[simp] theorem State.setRole_side (r : Role) (v : Option (Fin 8)) (y : Side) : (s.setRole r v).side y = s.side y := rfl
@[simp] theorem State.setRole_notice (r : Role) (v : Option (Fin 8)) (k : Notice) : (s.setRole r v).notice k = s.notice k := rfl
@[simp] theorem State.setRole_bank (r : Role) (v : Option (Fin 8)) (b : BankName) : (s.setRole r v).bank b = s.bank b := rfl
@[simp] theorem State.setRole_activeBank (r : Role) (v : Option (Fin 8)) : (s.setRole r v).activeBank = s.activeBank := rfl
@[simp] theorem State.setRole_maxDepth (r : Role) (v : Option (Fin 8)) : (s.setRole r v).maxDepth = s.maxDepth := rfl

end Sys2Proof.Machine
end

