-- ==== Sys2Proof/Laws/Requests.lean ====
section
/-! SUPPORT. What a request command can do, said once: whether its frame is taken (R187, R194), which test it
fails (R188), and what it leaves when its block decides. Every statement about a request goes through
`exec_served` or `exec_judged`. -/
namespace Sys2Proof.Machine

theorem State.takeFrame_head {s : State} {code : Nat} {r : Request} (h : s.atHead code r) :
    s.takeFrame (requestFrame code r) = some s.popped := by
  obtain ⟨h1, h2, h3, h4⟩ := h
  have hm : s.mayTake = true := by simp [State.mayTake, h1, h2, h3]
  cases hq : s.link.queue with
  | nil => simp [hq] at h4
  | cons g rest =>
    simp only [hq, List.head?_cons, Option.some.injEq] at h4
    simp [State.takeFrame, hm, hq, h4, requestFrame, State.popped]

/-- A frame at the head is judged on the state without it and answered. -/
theorem serve_head {s : State} {code size : Nat} {g : Grant} {act : List Byte → State → State × Reply} {r : Request}
    (h : s.atHead code r) :
    serve code size g act r s = (judgeRequest size g act r s.popped).1.respond r.requester (BitVec.ofNat 8 code) r.tag
      (judgeRequest size g act r s.popped).2 := by
  simp [serve, State.takeFrame_head h]

/-- A frame that cannot be taken now changes nothing. -/
theorem serve_waits {s : State} {code size : Nat} {g : Grant} {act : List Byte → State → State × Reply} {r : Request}
    (h : s.takeFrame (requestFrame code r) = none) : serve code size g act r s = s := by
  simp [serve, h]

/-- Test 2 of R188. -/
theorem judgeRequest_badSize {s : State} {size : Nat} {g : Grant} {act : List Byte → State → State × Reply}
    {r : Request} (h : ¬ sizedAs size r) : judgeRequest size g act r s = (s, plain .badRequest) := by
  have : (r.plen.toNat ≠ size || r.body.length < size) = true := by
    simp only [sizedAs, Classical.not_and_iff_not_or_not] at h
    simp only [Bool.or_eq_true, decide_eq_true_eq]
    omega
  unfold judgeRequest
  rw [if_pos this]
  rfl

/-- Test 3 of R188. -/
theorem judgeRequest_notGranted {s : State} {size : Nat} {g : Grant} {act : List Byte → State → State × Reply}
    {r : Request} (h : sizedAs size r) (hg : g.admits r.requester (r.body.take size) = false) :
    judgeRequest size g act r s = (s, plain .notPermitted) := by
  obtain ⟨h1, h2⟩ := h
  have : ¬ r.body.length < size := by omega
  simp [judgeRequest, h1, this, payloadOf, hg, refuse]

/-- Test 4 of R188: the owning block decides. -/
theorem judgeRequest_granted {s : State} {size : Nat} {g : Grant} {act : List Byte → State → State × Reply}
    {r : Request} (h : sizedAs size r) (hg : g.admits r.requester (r.body.take size) = true) :
    judgeRequest size g act r s = act (r.body.take size) s := by
  obtain ⟨h1, h2⟩ := h
  have : ¬ r.body.length < size := by omega
  simp [judgeRequest, h1, this, payloadOf, hg]

/-- A served request: the block's answer on the state without the frame, with its response in the slot. -/
theorem serve_served {s : State} {i : Instr} {row : RequestRow} {r : Request} (h : s.serves i row r)
    (act : List Byte → State → State × Reply) :
    serve row.code row.size row.grant act r s =
      (act (r.body.take row.size) s.popped).1.respond r.requester (BitVec.ofNat 8 row.code) r.tag
        (act (r.body.take row.size) s.popped).2 := by
  rw [serve_head h.atHead, judgeRequest_granted h.sized h.permitted]

/-! ### The owning block's answer -/

/-- The owning block's answer to a request command (R188). (An event has none; its value here is never used.) -/
def requestAct : Instr → List Byte → State → State × Reply
  | .insertZone _ => Sys2Proof.Machine.insertZone
  | .amendZone _ => Sys2Proof.Machine.amendZone
  | .suspendZone _ => Sys2Proof.Machine.suspendZone
  | .reinstateZone _ => Sys2Proof.Machine.reinstateZone
  | .retireZone _ => Sys2Proof.Machine.retireZone
  | .readZone _ => Sys2Proof.Machine.readZone
  | .findZone _ => Sys2Proof.Machine.findZone
  | .listZones _ => Sys2Proof.Machine.listZones
  | .insertMark _ => Sys2Proof.Machine.insertMark
  | .amendMark _ => Sys2Proof.Machine.amendMark
  | .retireMark _ => Sys2Proof.Machine.retireMark
  | .readMark _ => Sys2Proof.Machine.readMark
  | .listMarks _ => Sys2Proof.Machine.listMarks
  | .clearPlan _ => Sys2Proof.Machine.clearPlan
  | .writeGeometry _ => Sys2Proof.Machine.writeGeometry
  | .readGeometry _ => Sys2Proof.Machine.readGeometry
  | .fixStation _ => Sys2Proof.Machine.fixStation
  | .setTravelSense _ => Sys2Proof.Machine.setTravelSense
  | .readStation _ => Sys2Proof.Machine.readStation
  | .configureChannel _ => Sys2Proof.Machine.configureChannel
  | .clearChannel _ => Sys2Proof.Machine.clearChannel
  | .readChannel _ => Sys2Proof.Machine.readChannel
  | .assignRole _ => Sys2Proof.Machine.assignRole
  | .readRoles _ => Sys2Proof.Machine.readRoles
  | .setZero _ => Sys2Proof.Machine.setZero
  | .engage _ => Sys2Proof.Machine.engage
  | .disengage _ => Sys2Proof.Machine.disengage
  | .jog _ => Sys2Proof.Machine.jog
  | .reference _ => Sys2Proof.Machine.reference
  | .setSideMode _ => Sys2Proof.Machine.setSideMode
  | .setTrim _ => Sys2Proof.Machine.setTrim
  | .readSide _ => Sys2Proof.Machine.readSide
  | .writeBank _ => Sys2Proof.Machine.writeBank
  | .readBank _ => Sys2Proof.Machine.readBank
  | .setAdvanceCap _ => Sys2Proof.Machine.setAdvanceCap
  | .readGovernor _ => Sys2Proof.Machine.readGovernor
  | .conveyorStart _ => Sys2Proof.Machine.conveyorStart
  | .conveyorStop _ => Sys2Proof.Machine.conveyorStop
  | .setBeltMode _ => Sys2Proof.Machine.setBeltMode
  | .truckAway _ => Sys2Proof.Machine.truckAway
  | .truckReady _ => Sys2Proof.Machine.truckReady
  | .setTruckTarget _ => Sys2Proof.Machine.setTruckTarget
  | .clearBlock _ => Sys2Proof.Machine.clearBlock
  | .clearTotals _ => Sys2Proof.Machine.clearTotals
  | .readConveyor _ => Sys2Proof.Machine.readConveyor
  | .readNotices _ => Sys2Proof.Machine.readNotices
  | .acknowledgeNotices _ => Sys2Proof.Machine.acknowledgeNotices
  | .setNoticeMask _ => Sys2Proof.Machine.setNoticeMask
  | .presence _ => Sys2Proof.Machine.presence
  | .restart _ => Sys2Proof.Machine.restart
  | .requestArrival _ | .malformedFrameTaken _ | .responseSent | .responseDiscard | .statusBroadcast
  | .broadcastSent | .supervisionExpiry | .readingMessage _ | .freshnessExpiry _ | .ceilingMessageSent
  | .encoderCount _ | .encoderDoubleStep | .speedWindowExpiry | .sideIntervalExpiry _ | .jogLeaseExpiry _
  | .settleDwellExpiry _ | .governorIntervalExpiry | .loadWindowExpiry | .conveyorIntervalExpiry | .runOnExpiry
  | .resetAssert _ | .restartResetStart | .coldResetRelease _ _ _ _ | .warmResetRelease _ _ => fun _ s => taken s

theorem exec_serve {i : Instr} {row : RequestRow} {r : Request} (h : requestRow i = some (row, r)) (s : State) :
    exec i s = .next (serve row.code row.size row.grant (requestAct i) r s) := by
  cases i <;> simp only [requestRow, Option.some.injEq, Prod.mk.injEq, reduceCtorEq] at h <;>
    (obtain ⟨rfl, rfl⟩ := h; rfl)

/-- The response a reply makes. -/
theorem State.respond_eq (s : State) (row : RequestRow) (r : Request) (a : Reply) :
    s.respond r.requester (BitVec.ofNat 8 row.code) r.tag a = s.answers row r a.status a.payload a.second := by
  obtain ⟨v, p, q⟩ := a
  cases q <;> simp [State.respond, State.answers, responseBytes, byteOf, beBytes, Config.responseMs]

/-- A request at the head: judged on the state without its frame, and answered. -/
theorem exec_judged {i : Instr} {row : RequestRow} {r : Request} {s : State} (h : requestRow i = some (row, r))
    (hh : s.atHead row.code r) :
    exec i s = .next ((judgeRequest row.size row.grant (requestAct i) r s.popped).1.answers row r
      (judgeRequest row.size row.grant (requestAct i) r s.popped).2.status
      (judgeRequest row.size row.grant (requestAct i) r s.popped).2.payload
      (judgeRequest row.size row.grant (requestAct i) r s.popped).2.second) := by
  rw [exec_serve h, serve_head hh, State.respond_eq]

/-- A served request: its owning block's answer on the state without its frame. -/
theorem exec_served {i : Instr} {row : RequestRow} {r : Request} {s : State} (h : s.serves i row r) :
    exec i s = .next ((requestAct i (r.body.take row.size) s.popped).1.answers row r
      (requestAct i (r.body.take row.size) s.popped).2.status
      (requestAct i (r.body.take row.size) s.popped).2.payload
      (requestAct i (r.body.take row.size) s.popped).2.second) := by
  rw [exec_judged h.isRow h.atHead, judgeRequest_granted h.sized h.permitted]

/-- The row of a served request is the table's. -/
theorem State.serves.row_eq {s : State} {i : Instr} {row row' : RequestRow} {r r' : Request} (h : s.serves i row r)
    (h' : requestRow i = some (row', r')) : row = row' ∧ r = r' := by
  have := h.isRow.symm.trans h'
  simpa using this

theorem State.popped_refuses (s : State) (row : RequestRow) (r : Request) (v : Status) :
    s.popped.answers row r v [] = s.refuses row r v := rfl

/-! ### Sides, numbers and names in a payload -/

theorem withSide_none {p : List Byte} {s : State} {act : Side → State × Reply} (h1 : fieldAt p 0 1 ≠ 1)
    (h2 : fieldAt p 0 1 ≠ 2) : withSide p s act = refuse .outOfRange s := by
  unfold withSide sideOf
  split <;> simp_all

theorem withSide_side {p : List Byte} {s : State} {act : Side → State × Reply} {x : Side}
    (h : fieldAt p 0 1 = (match x with | .left => 1 | .right => 2)) : withSide p s act = act x := by
  cases x <;> simp_all [withSide, sideOf]

theorem withZone_outside {n : Nat} {s : State} {act : Zone → State × Reply} (h : n = 0 ∨ 64 < n) :
    withZone n s act = refuse .outOfRange s := by
  have : (decide (n < 1) || decide (Config.zoneNumbers < n)) = true := by
    simp only [Bool.or_eq_true, decide_eq_true_eq, show Config.zoneNumbers = 64 from rfl]
    omega
  unfold withZone
  rw [if_pos this]

theorem withZone_missing {n : Nat} {s : State} {act : Zone → State × Reply} (h1 : 1 ≤ n) (h2 : n ≤ 64)
    (h : s.findZone n = none) : withZone n s act = refuse .noRecord s := by
  have : ¬ (decide (n < 1) || decide (Config.zoneNumbers < n)) = true := by
    simp only [Bool.or_eq_true, decide_eq_true_eq, show Config.zoneNumbers = 64 from rfl]
    omega
  unfold withZone
  rw [if_neg this, h]

theorem withZone_found {n : Nat} {s : State} {act : Zone → State × Reply} {z : Zone} (h1 : 1 ≤ n) (h2 : n ≤ 64)
    (h : s.findZone n = some z) : withZone n s act = act z := by
  have : ¬ (decide (n < 1) || decide (Config.zoneNumbers < n)) = true := by
    simp only [Bool.or_eq_true, decide_eq_true_eq, show Config.zoneNumbers = 64 from rfl]
    omega
  unfold withZone
  rw [if_neg this, h]

theorem withMark_outside {n : Nat} {s : State} {act : Mark → State × Reply} (h : n = 0 ∨ 32 < n) :
    withMark n s act = refuse .outOfRange s := by
  have : (decide (n < 1) || decide (Config.markNumbers < n)) = true := by
    simp only [Bool.or_eq_true, decide_eq_true_eq, show Config.markNumbers = 32 from rfl]
    omega
  unfold withMark
  rw [if_pos this]

theorem withMark_missing {n : Nat} {s : State} {act : Mark → State × Reply} (h1 : 1 ≤ n) (h2 : n ≤ 32)
    (h : s.findMark n = none) : withMark n s act = refuse .noRecord s := by
  have : ¬ (decide (n < 1) || decide (Config.markNumbers < n)) = true := by
    simp only [Bool.or_eq_true, decide_eq_true_eq, show Config.markNumbers = 32 from rfl]
    omega
  unfold withMark
  rw [if_neg this, h]

theorem withMark_found {n : Nat} {s : State} {act : Mark → State × Reply} {m : Mark} (h1 : 1 ≤ n) (h2 : n ≤ 32)
    (h : s.findMark n = some m) : withMark n s act = act m := by
  have : ¬ (decide (n < 1) || decide (Config.markNumbers < n)) = true := by
    simp only [Bool.or_eq_true, decide_eq_true_eq, show Config.markNumbers = 32 from rfl]
    omega
  unfold withMark
  rw [if_neg this, h]

theorem State.findZone_number {s : State} {n : Nat} {z : Zone} (h : s.findZone n = some z) :
    z.number = n ∧ z ∈ s.plan.zones := by
  have h1 := List.find?_some h
  exact ⟨by simpa using h1, List.mem_of_find?_eq_some h⟩

theorem State.findMark_number {s : State} {n : Nat} {m : Mark} (h : s.findMark n = some m) :
    m.number = n ∧ m ∈ s.plan.marks := by
  have h1 := List.find?_some h
  exact ⟨by simpa using h1, List.mem_of_find?_eq_some h⟩

@[simp] theorem State.popped_findZone (s : State) (n : Nat) : s.popped.findZone n = s.findZone n := rfl

@[simp] theorem State.popped_findMark (s : State) (n : Nat) : s.popped.findMark n = s.findMark n := rfl

end Sys2Proof.Machine
end

