-- ==== Sys2Proof/WellFormed.lean ====
section
/-! DEFINITION. Which commands a bus can deliver: the checks on the frames that `Instr`'s operands stand for.
A frame that the part itself refuses (a wrong length byte, a requester without permission) is well formed:
its refusal is the command's effect (R188). -/
namespace Sys2Proof

/-- The data lengths of a CAN frame: 0..8 bytes, and in the flexible data-rate format also 12, 16, 20, 24,
32, 48 and 64 (PRESUMED: the CAN standards, log entry 8; R186 says only that lengths are rounded up). -/
def legalLength (fd : Bool) (n : Nat) : Bool := n ≤ 8 || (fd && n ∈ [12, 16, 20, 24, 32, 48, 64])

/-- An identifier fits its format: 11 bits, or 29 in the extended format (R186, R195). -/
def CanFrame.identOk (f : CanFrame) : Bool := f.ident < (if f.extended then 2 ^ 29 else 2 ^ 11)

/-- A frame carries as many bytes as its format has a length for. -/
def CanFrame.lengthOk (f : CanFrame) : Bool := legalLength f.fd f.data.length

/-- A remote frame is classical and carries no data (PRESUMED: the CAN standards, log entry 8). -/
def CanFrame.remoteOk (f : CanFrame) : Bool := !f.remote || (!f.fd && f.data.isEmpty)

/-- A frame that a CAN bus can deliver. -/
def CanFrame.wellFormed (f : CanFrame) : Bool := f.identOk && f.lengthOk && f.remoteOk

/-- A request frame of either format (R186): the three header bytes and the body make a legal length. -/
def Request.wellFormed (r : Request) : Bool := legalLength true (3 + r.body.length)

/-- A queued frame of either format (R186). -/
def Frame.wellFormed (f : Frame) : Bool := legalLength true f.data.length

/-- A command that the outside of the part can send. -/
def Instr.wellFormed : Instr → Bool
  | .insertZone r => r.wellFormed
  | .amendZone r => r.wellFormed
  | .suspendZone r => r.wellFormed
  | .reinstateZone r => r.wellFormed
  | .retireZone r => r.wellFormed
  | .readZone r => r.wellFormed
  | .findZone r => r.wellFormed
  | .listZones r => r.wellFormed
  | .insertMark r => r.wellFormed
  | .amendMark r => r.wellFormed
  | .retireMark r => r.wellFormed
  | .readMark r => r.wellFormed
  | .listMarks r => r.wellFormed
  | .clearPlan r => r.wellFormed
  | .writeGeometry r => r.wellFormed
  | .readGeometry r => r.wellFormed
  | .fixStation r => r.wellFormed
  | .setTravelSense r => r.wellFormed
  | .readStation r => r.wellFormed
  | .configureChannel r => r.wellFormed
  | .clearChannel r => r.wellFormed
  | .readChannel r => r.wellFormed
  | .assignRole r => r.wellFormed
  | .readRoles r => r.wellFormed
  | .setZero r => r.wellFormed
  | .engage r => r.wellFormed
  | .disengage r => r.wellFormed
  | .jog r => r.wellFormed
  | .reference r => r.wellFormed
  | .setSideMode r => r.wellFormed
  | .setTrim r => r.wellFormed
  | .readSide r => r.wellFormed
  | .writeBank r => r.wellFormed
  | .readBank r => r.wellFormed
  | .setAdvanceCap r => r.wellFormed
  | .readGovernor r => r.wellFormed
  | .conveyorStart r => r.wellFormed
  | .conveyorStop r => r.wellFormed
  | .setBeltMode r => r.wellFormed
  | .truckAway r => r.wellFormed
  | .truckReady r => r.wellFormed
  | .setTruckTarget r => r.wellFormed
  | .clearBlock r => r.wellFormed
  | .clearTotals r => r.wellFormed
  | .readConveyor r => r.wellFormed
  | .readNotices r => r.wellFormed
  | .acknowledgeNotices r => r.wellFormed
  | .setNoticeMask r => r.wellFormed
  | .presence r => r.wellFormed
  | .restart r => r.wellFormed
  | .requestArrival f => f.wellFormed
  | .malformedFrameTaken f => f.wellFormed
  | .readingMessage f => f.wellFormed
  | .responseSent | .responseDiscard | .statusBroadcast | .broadcastSent | .supervisionExpiry
  | .freshnessExpiry _ | .ceilingMessageSent | .encoderCount _ | .encoderDoubleStep | .speedWindowExpiry
  | .sideIntervalExpiry _ | .jogLeaseExpiry _ | .settleDwellExpiry _ | .governorIntervalExpiry | .loadWindowExpiry
  | .conveyorIntervalExpiry | .runOnExpiry | .resetAssert _ | .restartResetStart | .coldResetRelease _ _ _ _
  | .warmResetRelease _ _ => true

end Sys2Proof
end

