-- ==== Sys2Proof/Laws/PerInstr.lean ====
section
/-! SUPPORT. Statements made for every command, proved command by command. -/
namespace Sys2Proof.Laws
open Sys2Proof.Machine

/-- What section 10.7 says of a command as syntax: a request's code is one of the table's, so that its frame
is not malformed (R188); its frame and its response fit a CAN FD frame of 64 bytes; and its frame, filled
with any number of bytes that gives a legal length, is well formed. An event has no row. -/
def RequestCode.Statement (i : Instr) : Prop :=
  ∀ row r, requestRow i = some (row, r) →
    row.code ∈ requestCodes ∧ malformedData (requestFrame row.code r).data = false ∧ row.size + 3 ≤ 64 ∧
    (∀ n ∈ row.done, n + 4 ≤ 64) ∧ i.wellFormed = legalLength true (3 + r.body.length)

/-- A frame with a known code is not malformed (R188): its header is whole. -/
theorem malformedData_requestFrame {code : Nat} {r : Request} (h : code ∈ requestCodes) :
    malformedData (requestFrame code r).data = false := by
  have hb : ∀ c ∈ requestCodes, c % 256 = c := by decide
  rw [malformedData, Bool.or_eq_false_iff]
  exact ⟨decide_eq_false (by simp [requestFrame]), by simp [requestFrame, hb code h, h]⟩

theorem RequestCode.insertZone (r : Request) : RequestCode.Statement (.insertZone r) := by
  intro row r' h
  obtain ⟨rfl, rfl⟩ : _ ∧ _ := by simpa [requestRow] using h
  refine ⟨by decide, malformedData_requestFrame (by decide), by decide, by decide, rfl⟩

theorem RequestCode.amendZone (r : Request) : RequestCode.Statement (.amendZone r) := by
  intro row r' h
  obtain ⟨rfl, rfl⟩ : _ ∧ _ := by simpa [requestRow] using h
  refine ⟨by decide, malformedData_requestFrame (by decide), by decide, by decide, rfl⟩

theorem RequestCode.suspendZone (r : Request) : RequestCode.Statement (.suspendZone r) := by
  intro row r' h
  obtain ⟨rfl, rfl⟩ : _ ∧ _ := by simpa [requestRow] using h
  refine ⟨by decide, malformedData_requestFrame (by decide), by decide, by decide, rfl⟩

theorem RequestCode.reinstateZone (r : Request) : RequestCode.Statement (.reinstateZone r) := by
  intro row r' h
  obtain ⟨rfl, rfl⟩ : _ ∧ _ := by simpa [requestRow] using h
  refine ⟨by decide, malformedData_requestFrame (by decide), by decide, by decide, rfl⟩

theorem RequestCode.retireZone (r : Request) : RequestCode.Statement (.retireZone r) := by
  intro row r' h
  obtain ⟨rfl, rfl⟩ : _ ∧ _ := by simpa [requestRow] using h
  refine ⟨by decide, malformedData_requestFrame (by decide), by decide, by decide, rfl⟩

theorem RequestCode.readZone (r : Request) : RequestCode.Statement (.readZone r) := by
  intro row r' h
  obtain ⟨rfl, rfl⟩ : _ ∧ _ := by simpa [requestRow] using h
  refine ⟨by decide, malformedData_requestFrame (by decide), by decide, by decide, rfl⟩

theorem RequestCode.findZone (r : Request) : RequestCode.Statement (.findZone r) := by
  intro row r' h
  obtain ⟨rfl, rfl⟩ : _ ∧ _ := by simpa [requestRow] using h
  refine ⟨by decide, malformedData_requestFrame (by decide), by decide, by decide, rfl⟩

theorem RequestCode.listZones (r : Request) : RequestCode.Statement (.listZones r) := by
  intro row r' h
  obtain ⟨rfl, rfl⟩ : _ ∧ _ := by simpa [requestRow] using h
  refine ⟨by decide, malformedData_requestFrame (by decide), by decide, by decide, rfl⟩

theorem RequestCode.insertMark (r : Request) : RequestCode.Statement (.insertMark r) := by
  intro row r' h
  obtain ⟨rfl, rfl⟩ : _ ∧ _ := by simpa [requestRow] using h
  refine ⟨by decide, malformedData_requestFrame (by decide), by decide, by decide, rfl⟩

theorem RequestCode.amendMark (r : Request) : RequestCode.Statement (.amendMark r) := by
  intro row r' h
  obtain ⟨rfl, rfl⟩ : _ ∧ _ := by simpa [requestRow] using h
  refine ⟨by decide, malformedData_requestFrame (by decide), by decide, by decide, rfl⟩

theorem RequestCode.retireMark (r : Request) : RequestCode.Statement (.retireMark r) := by
  intro row r' h
  obtain ⟨rfl, rfl⟩ : _ ∧ _ := by simpa [requestRow] using h
  refine ⟨by decide, malformedData_requestFrame (by decide), by decide, by decide, rfl⟩

theorem RequestCode.readMark (r : Request) : RequestCode.Statement (.readMark r) := by
  intro row r' h
  obtain ⟨rfl, rfl⟩ : _ ∧ _ := by simpa [requestRow] using h
  refine ⟨by decide, malformedData_requestFrame (by decide), by decide, by decide, rfl⟩

theorem RequestCode.listMarks (r : Request) : RequestCode.Statement (.listMarks r) := by
  intro row r' h
  obtain ⟨rfl, rfl⟩ : _ ∧ _ := by simpa [requestRow] using h
  refine ⟨by decide, malformedData_requestFrame (by decide), by decide, by decide, rfl⟩

theorem RequestCode.clearPlan (r : Request) : RequestCode.Statement (.clearPlan r) := by
  intro row r' h
  obtain ⟨rfl, rfl⟩ : _ ∧ _ := by simpa [requestRow] using h
  refine ⟨by decide, malformedData_requestFrame (by decide), by decide, by decide, rfl⟩

theorem RequestCode.writeGeometry (r : Request) : RequestCode.Statement (.writeGeometry r) := by
  intro row r' h
  obtain ⟨rfl, rfl⟩ : _ ∧ _ := by simpa [requestRow] using h
  refine ⟨by decide, malformedData_requestFrame (by decide), by decide, by decide, rfl⟩

theorem RequestCode.readGeometry (r : Request) : RequestCode.Statement (.readGeometry r) := by
  intro row r' h
  obtain ⟨rfl, rfl⟩ : _ ∧ _ := by simpa [requestRow] using h
  refine ⟨by decide, malformedData_requestFrame (by decide), by decide, by decide, rfl⟩

theorem RequestCode.fixStation (r : Request) : RequestCode.Statement (.fixStation r) := by
  intro row r' h
  obtain ⟨rfl, rfl⟩ : _ ∧ _ := by simpa [requestRow] using h
  refine ⟨by decide, malformedData_requestFrame (by decide), by decide, by decide, rfl⟩

theorem RequestCode.setTravelSense (r : Request) : RequestCode.Statement (.setTravelSense r) := by
  intro row r' h
  obtain ⟨rfl, rfl⟩ : _ ∧ _ := by simpa [requestRow] using h
  refine ⟨by decide, malformedData_requestFrame (by decide), by decide, by decide, rfl⟩

theorem RequestCode.readStation (r : Request) : RequestCode.Statement (.readStation r) := by
  intro row r' h
  obtain ⟨rfl, rfl⟩ : _ ∧ _ := by simpa [requestRow] using h
  refine ⟨by decide, malformedData_requestFrame (by decide), by decide, by decide, rfl⟩

theorem RequestCode.configureChannel (r : Request) : RequestCode.Statement (.configureChannel r) := by
  intro row r' h
  obtain ⟨rfl, rfl⟩ : _ ∧ _ := by simpa [requestRow] using h
  refine ⟨by decide, malformedData_requestFrame (by decide), by decide, by decide, rfl⟩

theorem RequestCode.clearChannel (r : Request) : RequestCode.Statement (.clearChannel r) := by
  intro row r' h
  obtain ⟨rfl, rfl⟩ : _ ∧ _ := by simpa [requestRow] using h
  refine ⟨by decide, malformedData_requestFrame (by decide), by decide, by decide, rfl⟩

theorem RequestCode.readChannel (r : Request) : RequestCode.Statement (.readChannel r) := by
  intro row r' h
  obtain ⟨rfl, rfl⟩ : _ ∧ _ := by simpa [requestRow] using h
  refine ⟨by decide, malformedData_requestFrame (by decide), by decide, by decide, rfl⟩

theorem RequestCode.assignRole (r : Request) : RequestCode.Statement (.assignRole r) := by
  intro row r' h
  obtain ⟨rfl, rfl⟩ : _ ∧ _ := by simpa [requestRow] using h
  refine ⟨by decide, malformedData_requestFrame (by decide), by decide, by decide, rfl⟩

theorem RequestCode.readRoles (r : Request) : RequestCode.Statement (.readRoles r) := by
  intro row r' h
  obtain ⟨rfl, rfl⟩ : _ ∧ _ := by simpa [requestRow] using h
  refine ⟨by decide, malformedData_requestFrame (by decide), by decide, by decide, rfl⟩

theorem RequestCode.setZero (r : Request) : RequestCode.Statement (.setZero r) := by
  intro row r' h
  obtain ⟨rfl, rfl⟩ : _ ∧ _ := by simpa [requestRow] using h
  refine ⟨by decide, malformedData_requestFrame (by decide), by decide, by decide, rfl⟩

theorem RequestCode.engage (r : Request) : RequestCode.Statement (.engage r) := by
  intro row r' h
  obtain ⟨rfl, rfl⟩ : _ ∧ _ := by simpa [requestRow] using h
  refine ⟨by decide, malformedData_requestFrame (by decide), by decide, by decide, rfl⟩

theorem RequestCode.disengage (r : Request) : RequestCode.Statement (.disengage r) := by
  intro row r' h
  obtain ⟨rfl, rfl⟩ : _ ∧ _ := by simpa [requestRow] using h
  refine ⟨by decide, malformedData_requestFrame (by decide), by decide, by decide, rfl⟩

theorem RequestCode.jog (r : Request) : RequestCode.Statement (.jog r) := by
  intro row r' h
  obtain ⟨rfl, rfl⟩ : _ ∧ _ := by simpa [requestRow] using h
  refine ⟨by decide, malformedData_requestFrame (by decide), by decide, by decide, rfl⟩

theorem RequestCode.reference (r : Request) : RequestCode.Statement (.reference r) := by
  intro row r' h
  obtain ⟨rfl, rfl⟩ : _ ∧ _ := by simpa [requestRow] using h
  refine ⟨by decide, malformedData_requestFrame (by decide), by decide, by decide, rfl⟩

theorem RequestCode.setSideMode (r : Request) : RequestCode.Statement (.setSideMode r) := by
  intro row r' h
  obtain ⟨rfl, rfl⟩ : _ ∧ _ := by simpa [requestRow] using h
  refine ⟨by decide, malformedData_requestFrame (by decide), by decide, by decide, rfl⟩

theorem RequestCode.setTrim (r : Request) : RequestCode.Statement (.setTrim r) := by
  intro row r' h
  obtain ⟨rfl, rfl⟩ : _ ∧ _ := by simpa [requestRow] using h
  refine ⟨by decide, malformedData_requestFrame (by decide), by decide, by decide, rfl⟩

theorem RequestCode.readSide (r : Request) : RequestCode.Statement (.readSide r) := by
  intro row r' h
  obtain ⟨rfl, rfl⟩ : _ ∧ _ := by simpa [requestRow] using h
  refine ⟨by decide, malformedData_requestFrame (by decide), by decide, by decide, rfl⟩

theorem RequestCode.writeBank (r : Request) : RequestCode.Statement (.writeBank r) := by
  intro row r' h
  obtain ⟨rfl, rfl⟩ : _ ∧ _ := by simpa [requestRow] using h
  refine ⟨by decide, malformedData_requestFrame (by decide), by decide, by decide, rfl⟩

theorem RequestCode.readBank (r : Request) : RequestCode.Statement (.readBank r) := by
  intro row r' h
  obtain ⟨rfl, rfl⟩ : _ ∧ _ := by simpa [requestRow] using h
  refine ⟨by decide, malformedData_requestFrame (by decide), by decide, by decide, rfl⟩

theorem RequestCode.setAdvanceCap (r : Request) : RequestCode.Statement (.setAdvanceCap r) := by
  intro row r' h
  obtain ⟨rfl, rfl⟩ : _ ∧ _ := by simpa [requestRow] using h
  refine ⟨by decide, malformedData_requestFrame (by decide), by decide, by decide, rfl⟩

theorem RequestCode.readGovernor (r : Request) : RequestCode.Statement (.readGovernor r) := by
  intro row r' h
  obtain ⟨rfl, rfl⟩ : _ ∧ _ := by simpa [requestRow] using h
  refine ⟨by decide, malformedData_requestFrame (by decide), by decide, by decide, rfl⟩

theorem RequestCode.conveyorStart (r : Request) : RequestCode.Statement (.conveyorStart r) := by
  intro row r' h
  obtain ⟨rfl, rfl⟩ : _ ∧ _ := by simpa [requestRow] using h
  refine ⟨by decide, malformedData_requestFrame (by decide), by decide, by decide, rfl⟩

theorem RequestCode.conveyorStop (r : Request) : RequestCode.Statement (.conveyorStop r) := by
  intro row r' h
  obtain ⟨rfl, rfl⟩ : _ ∧ _ := by simpa [requestRow] using h
  refine ⟨by decide, malformedData_requestFrame (by decide), by decide, by decide, rfl⟩

theorem RequestCode.setBeltMode (r : Request) : RequestCode.Statement (.setBeltMode r) := by
  intro row r' h
  obtain ⟨rfl, rfl⟩ : _ ∧ _ := by simpa [requestRow] using h
  refine ⟨by decide, malformedData_requestFrame (by decide), by decide, by decide, rfl⟩

theorem RequestCode.truckAway (r : Request) : RequestCode.Statement (.truckAway r) := by
  intro row r' h
  obtain ⟨rfl, rfl⟩ : _ ∧ _ := by simpa [requestRow] using h
  refine ⟨by decide, malformedData_requestFrame (by decide), by decide, by decide, rfl⟩

theorem RequestCode.truckReady (r : Request) : RequestCode.Statement (.truckReady r) := by
  intro row r' h
  obtain ⟨rfl, rfl⟩ : _ ∧ _ := by simpa [requestRow] using h
  refine ⟨by decide, malformedData_requestFrame (by decide), by decide, by decide, rfl⟩

theorem RequestCode.setTruckTarget (r : Request) : RequestCode.Statement (.setTruckTarget r) := by
  intro row r' h
  obtain ⟨rfl, rfl⟩ : _ ∧ _ := by simpa [requestRow] using h
  refine ⟨by decide, malformedData_requestFrame (by decide), by decide, by decide, rfl⟩

theorem RequestCode.clearBlock (r : Request) : RequestCode.Statement (.clearBlock r) := by
  intro row r' h
  obtain ⟨rfl, rfl⟩ : _ ∧ _ := by simpa [requestRow] using h
  refine ⟨by decide, malformedData_requestFrame (by decide), by decide, by decide, rfl⟩

theorem RequestCode.clearTotals (r : Request) : RequestCode.Statement (.clearTotals r) := by
  intro row r' h
  obtain ⟨rfl, rfl⟩ : _ ∧ _ := by simpa [requestRow] using h
  refine ⟨by decide, malformedData_requestFrame (by decide), by decide, by decide, rfl⟩

theorem RequestCode.readConveyor (r : Request) : RequestCode.Statement (.readConveyor r) := by
  intro row r' h
  obtain ⟨rfl, rfl⟩ : _ ∧ _ := by simpa [requestRow] using h
  refine ⟨by decide, malformedData_requestFrame (by decide), by decide, by decide, rfl⟩

theorem RequestCode.readNotices (r : Request) : RequestCode.Statement (.readNotices r) := by
  intro row r' h
  obtain ⟨rfl, rfl⟩ : _ ∧ _ := by simpa [requestRow] using h
  refine ⟨by decide, malformedData_requestFrame (by decide), by decide, by decide, rfl⟩

theorem RequestCode.acknowledgeNotices (r : Request) : RequestCode.Statement (.acknowledgeNotices r) := by
  intro row r' h
  obtain ⟨rfl, rfl⟩ : _ ∧ _ := by simpa [requestRow] using h
  refine ⟨by decide, malformedData_requestFrame (by decide), by decide, by decide, rfl⟩

theorem RequestCode.setNoticeMask (r : Request) : RequestCode.Statement (.setNoticeMask r) := by
  intro row r' h
  obtain ⟨rfl, rfl⟩ : _ ∧ _ := by simpa [requestRow] using h
  refine ⟨by decide, malformedData_requestFrame (by decide), by decide, by decide, rfl⟩

theorem RequestCode.presence (r : Request) : RequestCode.Statement (.presence r) := by
  intro row r' h
  obtain ⟨rfl, rfl⟩ : _ ∧ _ := by simpa [requestRow] using h
  refine ⟨by decide, malformedData_requestFrame (by decide), by decide, by decide, rfl⟩

theorem RequestCode.restart (r : Request) : RequestCode.Statement (.restart r) := by
  intro row r' h
  obtain ⟨rfl, rfl⟩ : _ ∧ _ := by simpa [requestRow] using h
  refine ⟨by decide, malformedData_requestFrame (by decide), by decide, by decide, rfl⟩

theorem RequestCode.requestArrival (f : CanFrame) : RequestCode.Statement (.requestArrival f) := by
  intro row r h
  simp [requestRow] at h

theorem RequestCode.malformedFrameTaken (f : Frame) : RequestCode.Statement (.malformedFrameTaken f) := by
  intro row r h
  simp [requestRow] at h

theorem RequestCode.responseSent : RequestCode.Statement (.responseSent) := by
  intro row r h
  simp [requestRow] at h

theorem RequestCode.responseDiscard : RequestCode.Statement (.responseDiscard) := by
  intro row r h
  simp [requestRow] at h

theorem RequestCode.statusBroadcast : RequestCode.Statement (.statusBroadcast) := by
  intro row r h
  simp [requestRow] at h

theorem RequestCode.broadcastSent : RequestCode.Statement (.broadcastSent) := by
  intro row r h
  simp [requestRow] at h

theorem RequestCode.supervisionExpiry : RequestCode.Statement (.supervisionExpiry) := by
  intro row r h
  simp [requestRow] at h

theorem RequestCode.readingMessage (f : CanFrame) : RequestCode.Statement (.readingMessage f) := by
  intro row r h
  simp [requestRow] at h

theorem RequestCode.freshnessExpiry (n : Fin 8) : RequestCode.Statement (.freshnessExpiry n) := by
  intro row r h
  simp [requestRow] at h

theorem RequestCode.ceilingMessageSent : RequestCode.Statement (.ceilingMessageSent) := by
  intro row r h
  simp [requestRow] at h

theorem RequestCode.encoderCount (e : EncoderInput) : RequestCode.Statement (.encoderCount e) := by
  intro row r h
  simp [requestRow] at h

theorem RequestCode.encoderDoubleStep : RequestCode.Statement (.encoderDoubleStep) := by
  intro row r h
  simp [requestRow] at h

theorem RequestCode.speedWindowExpiry : RequestCode.Statement (.speedWindowExpiry) := by
  intro row r h
  simp [requestRow] at h

theorem RequestCode.sideIntervalExpiry (x : Side) : RequestCode.Statement (.sideIntervalExpiry x) := by
  intro row r h
  simp [requestRow] at h

theorem RequestCode.jogLeaseExpiry (x : Side) : RequestCode.Statement (.jogLeaseExpiry x) := by
  intro row r h
  simp [requestRow] at h

theorem RequestCode.settleDwellExpiry (x : Side) : RequestCode.Statement (.settleDwellExpiry x) := by
  intro row r h
  simp [requestRow] at h

theorem RequestCode.governorIntervalExpiry : RequestCode.Statement (.governorIntervalExpiry) := by
  intro row r h
  simp [requestRow] at h

theorem RequestCode.loadWindowExpiry : RequestCode.Statement (.loadWindowExpiry) := by
  intro row r h
  simp [requestRow] at h

theorem RequestCode.conveyorIntervalExpiry : RequestCode.Statement (.conveyorIntervalExpiry) := by
  intro row r h
  simp [requestRow] at h

theorem RequestCode.runOnExpiry : RequestCode.Statement (.runOnExpiry) := by
  intro row r h
  simp [requestRow] at h

theorem RequestCode.resetAssert (src : ResetSource) : RequestCode.Statement (.resetAssert src) := by
  intro row r h
  simp [requestRow] at h

theorem RequestCode.restartResetStart : RequestCode.Statement (.restartResetStart) := by
  intro row r h
  simp [requestRow] at h

theorem RequestCode.coldResetRelease (dclass1 dclass0 encA encB : Bool) : RequestCode.Statement (.coldResetRelease dclass1 dclass0 encA encB) := by
  intro row r h
  simp [requestRow] at h

theorem RequestCode.warmResetRelease (encA encB : Bool) : RequestCode.Statement (.warmResetRelease encA encB) := by
  intro row r h
  simp [requestRow] at h

end Sys2Proof.Laws
end

