-- ==== Sys2Proof/Laws/Shared.lean ====
section
/-! SUPPORT. What each shared operation can do, said once: the cases of an operation that decides, and what
one that rewrites a side, a mark or a notice leaves there. Later proofs cite these and unfold none of them. -/
namespace Sys2Proof.Machine

/-! ### While a reset is held, and taking a frame -/

theorem State.whileRunning_running {s t : State} (h : s.heldReset = none) : s.whileRunning t = t := by
  simp [State.whileRunning, h]

theorem State.whileRunning_held {s t : State} (h : s.heldReset ≠ none) : s.whileRunning t = s := by
  simp [State.whileRunning, Option.isSome_iff_ne_none.mpr h]

theorem State.mayTake_iff {s : State} :
    s.mayTake = true ↔ s.heldReset = none ∧ s.link.response = none ∧ s.link.restartTaken = false := by
  simp [State.mayTake, and_assoc]

/-- A frame that is taken was at the head, or arrived at an empty queue at this moment. -/
theorem State.takeFrame_some {s t : State} {f : Frame} (h : s.takeFrame f = some t) :
    s.mayTake = true ∧
      ((s.link.queue = [] ∧ t = s.heard f.requester) ∨
        ∃ rest, s.link.queue = f :: rest ∧ t = { s with link := { s.link with queue := rest } }) := by
  unfold State.takeFrame at h
  split at h
  · refine ⟨‹_›, ?_⟩
    split at h
    · exact .inl ⟨‹_›, by simpa using h.symm⟩
    · split at h
      · subst f
        exact .inr ⟨_, ‹_›, by simpa using h.symm⟩
      · cases h
  · cases h

/-- A request command changes nothing, or answers the owning block's reply to a frame it has taken. -/
theorem serve_cases (code size : Nat) (g : Grant) (act : List Byte → State → State × Reply) (r : Request) (s : State) :
    serve code size g act r s = s ∨ ∃ t, s.takeFrame (requestFrame code r) = some t ∧
      serve code size g act r s = (judgeRequest size g act r t).1.respond r.requester (BitVec.ofNat 8 code) r.tag
        (judgeRequest size g act r t).2 := by
  unfold serve
  cases s.takeFrame (requestFrame code r) with
  | none => exact .inl rfl
  | some t => exact .inr ⟨t, rfl, rfl⟩

/-- The three answers of the interface and its block to a taken frame (R188). -/
theorem judgeRequest_cases (size : Nat) (g : Grant) (act : List Byte → State → State × Reply) (r : Request) (s : State) :
    judgeRequest size g act r s = (s, plain .badRequest) ∨ judgeRequest size g act r s = (s, plain .notPermitted) ∨
      judgeRequest size g act r s = act (payloadOf size r) s := by
  unfold judgeRequest refuse
  split
  · exact .inl rfl
  · split
    · exact .inr (.inl rfl)
    · exact .inr (.inr rfl)

/-! ### Arrivals (R187, R193) -/

theorem State.heard_cases (q : Requester) (s : State) :
    (q = .console ∧ s.heard q = s.consoleHeard) ∨ (q ≠ .console ∧ s.heard q = s) := by
  by_cases h : q = .console
  · exact .inl ⟨h, by simp [State.heard, h]⟩
  · exact .inr ⟨h, by simp [State.heard, h]⟩

theorem State.enqueue_cases (f : Frame) (s : State) :
    (s.link.queue.length < 4 ∧ s.enqueue f = { s with link := { s.link with queue := s.link.queue ++ [f] } }) ∨
      (4 ≤ s.link.queue.length ∧ s.enqueue f = s.raiseNotice .requestOverrun) := by
  by_cases h : s.link.queue.length < 4
  · exact .inl ⟨h, by simp [State.enqueue, Config.queueDepth, h]⟩
  · exact .inr ⟨by omega, by simp [State.enqueue, Config.queueDepth, h]⟩

theorem State.responseGone_eq (s : State) : s.responseGone = { s with link := { s.link with
    response := s.link.response.bind (fun m => m.second.map (fun d => ⟨m.requester, d, 100, none⟩)) } } := by
  obtain ⟨_, _, _, _, _, _, _, _, _, ⟨_, resp, _, _, _, _, _, _⟩, _, _, _⟩ := s
  cases resp with
  | none => rfl
  | some m =>
    obtain ⟨_, _, _, sec⟩ := m
    cases sec <;> rfl

/-- The transmitter sends the broadcast, or, with no broadcast in its slot, the response (R190). -/
theorem State.planLinkSends_cases (s : State) :
    (∃ d, s.link.broadcast = some d ∧ s.planLinkSends = some ⟨true, 0x380, d⟩) ∨
      (s.link.broadcast = none ∧ s.planLinkSends = s.responseFrame) := by
  cases h : s.link.broadcast with
  | none => exact .inr ⟨rfl, by simp [State.planLinkSends, State.broadcastFrame, h]⟩
  | some d => exact .inl ⟨d, rfl, by simp [State.planLinkSends, State.broadcastFrame, h, Config.broadcastIdent]⟩

/-- A response is sent only while no broadcast stands before it, and is then gone. -/
theorem State.sendResponse_cases (s : State) :
    (s.link.broadcast ≠ none ∧ s.sendResponse = s) ∨ (s.link.broadcast = none ∧ s.sendResponse = s.responseGone) := by
  by_cases h : s.link.broadcast = none
  · exact .inr ⟨h, by simp [State.sendResponse, h]⟩
  · exact .inl ⟨h, by simp [State.sendResponse, Option.isSome_iff_ne_none.mpr h]⟩

/-! ### Notices (R178, R179) -/

/-- Telling a cause begins it, ends it, or finds it standing. -/
theorem State.tellCause_cases (n : Notice) (present : Bool) (s : State) :
    (present = true ∧ (s.notice n).cause = true ∧ s.tellCause n present = s) ∨
    (present = true ∧ (s.notice n).cause = false ∧ s.tellCause n present = (s.setNotice n { s.notice n with
      latch := true, cause := true, count := (s.notice n).count + 1 }).updateAlert) ∨
    (present = false ∧ s.tellCause n present = s.setNotice n { s.notice n with cause := false }) := by
  cases present
  · exact .inr (.inr ⟨rfl, rfl⟩)
  · cases h : (s.notice n).cause
    · exact .inr (.inl ⟨rfl, rfl, by simp [State.tellCause, h]⟩)
    · exact .inl ⟨rfl, rfl, by simp [State.tellCause, h]⟩

theorem alertDue_iff (v : Vector NoticeRecord 19) :
    alertDue v = true ↔ ∃ r ∈ v.toList, r.latch = true ∧ r.masked = false := by
  simp only [alertDue, List.any_eq_true, Bool.and_eq_true, Bool.not_eq_true']

/-! ### Governance (R16, R17, R18) -/

/-- The zone that re-evaluation finds is in force and stands in the table. -/
theorem State.candidate_some {s : State} {z : Zone} (h : s.candidate = some z) :
    z ∈ s.plan.zones ∧ s.inForce z := by
  unfold State.candidate at h
  split at h
  · refine ⟨List.mem_of_find?_eq_some h, ?_⟩
    have := List.find?_some h
    simp only [ZoneFields.contains, Bool.and_eq_true, Bool.not_eq_true', decide_eq_true_eq] at this
    exact ⟨‹_›, this.1, this.2.1, this.2.2⟩
  · cases h

/-- With none found, no zone is in force. -/
theorem State.candidate_none {s : State} (h : s.candidate = none) : ∀ z ∈ s.plan.zones, ¬ s.inForce z := by
  intro z hz hf
  obtain ⟨h1, h2, h3, h4⟩ := hf
  unfold State.candidate at h
  rw [if_pos h1, List.find?_eq_none] at h
  exact h z hz (by simp [ZoneFields.contains, h2, h3, h4])

/-- Re-evaluation changes nothing, gives governance to the zone it finds, or takes it away. -/
theorem State.reevaluate_cases (amended : Option Nat) (s : State) :
    (s.reevaluate amended = s ∧ s.plan.governing = s.candidate.map Zone.number) ∨
    (∃ z, s.candidate = some z ∧ s.reevaluate amended = s.takeGovernance z) ∨
    (s.candidate = none ∧ s.plan.governing ≠ none ∧ s.reevaluate amended = s.loseGovernance) := by
  unfold State.reevaluate
  cases hc : s.candidate with
  | some z =>
    dsimp only
    split
    · rename_i h
      simp only [Bool.and_eq_true, decide_eq_true_eq] at h
      exact .inl ⟨rfl, h.1⟩
    · exact .inr (.inl ⟨z, rfl, rfl⟩)
  | none =>
    dsimp only
    split
    · exact .inl ⟨rfl, ‹_›⟩
    · exact .inr (.inr ⟨rfl, ‹_›, rfl⟩)

/-- A change of the station is handed on (R41): nothing where neither S nor the validity changed. -/
theorem State.stationChanged_cases (old : StationCounter) (s : State) :
    (old.station = s.station.station ∧ old.valid = s.station.valid ∧ s.stationChanged old = s) ∨
    (¬(old.station = s.station.station ∧ old.valid = s.station.valid) ∧
      s.stationChanged old = (State.reevaluate none { s with plan := { s.plan with
        marks := if old.valid && !s.station.valid then s.plan.marks.map Mark.forgetPosition
          else s.plan.marks } }).tellStationInvalid) := by
  unfold State.stationChanged
  split
  · rename_i h
    simp only [Bool.and_eq_true, decide_eq_true_eq] at h
    exact .inl ⟨h.1, h.2, rfl⟩
  · rename_i h
    simp only [Bool.and_eq_true, decide_eq_true_eq] at h
    refine .inr ⟨h, ?_⟩
    dsimp only
    congr 2
    split <;> rfl

theorem State.captureSide_side (z : Zone) (x : Side) (s : State) :
    (s.captureSide z x).side x =
      if (s.side x).state = .auto then { s.side x with context := { (s.side x).context with
        entryDepth := (s.side x).context.planDepth, entryStation := s.station.station, source := .plan
        heldSlope := if (s.side x).mode = .slope then s.slopeCapture x else (s.side x).context.heldSlope } }
      else
        let e : Int := match s.measuredDepth x with | some m => s.clampDepth m | none => (z.depth x : Int)
        { s.side x with context := { (s.side x).context with
          entryDepth := e, entryStation := s.station.station, planDepth := e } } := by
  unfold State.captureSide
  dsimp only
  split
  · simp [State.setContext]
  · simp only [State.setContext, State.setSide_side_same] <;> cases s.measuredDepth x <;> rfl

theorem State.captureSide_other (z : Zone) (x : Side) (s : State) :
    (s.captureSide z x).side (otherSide x) = s.side (otherSide x) := by
  unfold State.captureSide
  dsimp only
  split <;> cases x <;> rfl

theorem State.releaseSide_side (x : Side) (s : State) :
    (s.releaseSide x).side x =
      if (s.side x).state = .auto then { s.side x with context := { (s.side x).context with
        source := .hold
        holdDepth := if (s.side x).context.source = .plan then (s.side x).context.planDepth
          else (s.side x).context.holdDepth
        heldSlope := if (s.side x).mode = .slope then s.slopeCapture x else (s.side x).context.heldSlope } }
      else s.side x := by
  unfold State.releaseSide
  dsimp only
  split <;> simp [State.setContext]

theorem State.releaseSide_other (x : Side) (s : State) :
    (s.releaseSide x).side (otherSide x) = s.side (otherSide x) := by
  unfold State.releaseSide
  dsimp only
  split
  · cases x <;> rfl
  · rfl

/-! ### Sides that leave AUTO, freeze and fail (R101, R105, R112) -/

theorem State.leaveAuto_side (x : Side) (dest : SideState) (s : State) :
    (s.leaveAuto x dest).side x = { s.side x with
      state := dest
      settle := .abandoned
      demand := if dest = .manual then (s.side x).demand else 0
      context := { (s.side x).context with override := none, offer := none } } := by
  cases x <;> simp [State.leaveAuto, State.side, State.setSide]

theorem State.leaveAuto_other (x : Side) (dest : SideState) (s : State) :
    (s.leaveAuto x dest).side (otherSide x) = s.side (otherSide x) := by
  cases x <;> simp [State.leaveAuto, State.side, State.setSide, otherSide]

theorem State.leaveAuto_plan (x : Side) (dest : SideState) (s : State) :
    (s.leaveAuto x dest).plan = { s.plan with
      marks := s.plan.marks.map (fun m => { m with memory := m.memory.leave x }) } := by
  cases x <;> simp [State.leaveAuto, State.setSide]

/-- What leaving AUTO does to a mark is what R57 gives. -/
theorem Mark.leftBy_eq (x : Side) (m : Mark) : m.leftBy x = { m with memory := m.memory.leave x } := by
  obtain ⟨_, _, _, _, ⟨l, r, a⟩⟩ := m
  cases x <;> cases l <;> cases r <;> cases a <;> rfl

theorem State.leaveAuto_marks (x : Side) (dest : SideState) (s : State) :
    (s.leaveAuto x dest).plan = { s.plan with marks := s.plan.marks.map (Mark.leftBy x) } := by
  rw [State.leaveAuto_plan, funext (Mark.leftBy_eq x)]

theorem State.failReferencing_side (x : Side) (s : State) :
    (s.failReferencing x).side x = { s.side x with state := .idle, demand := 0, referencing := none } := by
  cases x <;> rfl

theorem State.failReferencing_other (x : Side) (s : State) :
    (s.failReferencing x).side (otherSide x) = s.side (otherSide x) := by
  cases x <;> rfl

theorem State.gradeLost_cases (x : Side) (s : State) :
    ((s.side x).state = .auto ∧ s.gradeLost x = s.freeze x) ∨
    ((s.side x).state = .referencing ∧ s.gradeLost x = s.failReferencing x) ∨
    ((s.side x).state ≠ .auto ∧ (s.side x).state ≠ .referencing ∧ s.gradeLost x = s) := by
  unfold State.gradeLost
  cases h : (s.side x).state <;> simp

theorem State.slopeLost_cases (x : Side) (s : State) :
    ((s.side x).state = .auto ∧ (s.side x).mode = .slope ∧ s.slopeLost x = s.freeze x) ∨
    (¬((s.side x).state = .auto ∧ (s.side x).mode = .slope) ∧ s.slopeLost x = s) := by
  by_cases h : (s.side x).state = .auto ∧ (s.side x).mode = .slope
  · exact .inl ⟨h.1, h.2, by simp [State.slopeLost, h.1, h.2]⟩
  · refine .inr ⟨h, ?_⟩
    simp only [State.slopeLost, Bool.and_eq_true, decide_eq_true_eq, if_neg h]

theorem State.loadLost_cases (x : Side) (s : State) :
    ((s.side x).state = .referencing ∧ s.loadLost x = s.failReferencing x) ∨
    ((s.side x).state ≠ .referencing ∧ s.loadLost x = s) := by
  by_cases h : (s.side x).state = .referencing
  · exact .inl ⟨h, by simp [State.loadLost, h]⟩
  · exact .inr ⟨h, by simp [State.loadLost, h]⟩

/-- A hand-over does nothing for a channel that did not change or holds no role; else it moves the sides as
the role gives, and re-evaluates SENSOR_LOST (R77). -/
theorem State.handOver_cases (n : Fin 8) (before : Channel) (s : State) :
    s.handOver n before = s ∨ ∃ r, s.roleHeld n = some r ∧ ∃ t : State,
      s.handOver n before = t.tellSensorLost ∧
      (t = s ∨ (before.health = .live ∧ (s.channel n).health ≠ .live ∧
          ((r = .leftGrade ∧ t = s.gradeLost .left) ∨ (r = .rightGrade ∧ t = s.gradeLost .right) ∨
            (r = .crossSlope ∧ t = (s.slopeLost .left).slopeLost .right))) ∨
        (r = .drumLoad ∧ t = (s.loadLost .left).loadLost .right)) := by
  unfold State.handOver
  dsimp only
  split
  · exact .inl rfl
  · have key : ∀ b : Bool, b = (before.health = .live && (s.channel n).health ≠ .live) → b = true →
        before.health = .live ∧ (s.channel n).health ≠ .live := by
      intro b hb h
      rw [hb] at h
      simpa using h
    cases s.roleHeld n with
    | none => exact .inl rfl
    | some r =>
      refine .inr ⟨r, rfl, ?_⟩
      cases r <;> dsimp only
      · split
        · exact ⟨_, rfl, .inr (.inl ⟨(key _ rfl ‹_›).1, (key _ rfl ‹_›).2, .inl ⟨rfl, rfl⟩⟩)⟩
        · exact ⟨_, rfl, .inl rfl⟩
      · split
        · exact ⟨_, rfl, .inr (.inl ⟨(key _ rfl ‹_›).1, (key _ rfl ‹_›).2, .inr (.inl ⟨rfl, rfl⟩)⟩)⟩
        · exact ⟨_, rfl, .inl rfl⟩
      · split
        · exact ⟨_, rfl, .inr (.inl ⟨(key _ rfl ‹_›).1, (key _ rfl ‹_›).2, .inr (.inr ⟨rfl, rfl⟩)⟩)⟩
        · exact ⟨_, rfl, .inl rfl⟩
      · split
        · exact ⟨_, rfl, .inr (.inr ⟨rfl, rfl⟩)⟩
        · exact ⟨_, rfl, .inl rfl⟩
      · exact ⟨_, rfl, .inl rfl⟩

/-! ### One side's loop (R49, R115, R131, R132) -/

theorem State.restartSettle_side (x : Side) (s : State) :
    (s.restartSettle x).side x = { s.side x with settle := s.activeBank.firstStep s.station.speed [0, 1, 2] } := by
  cases x <;> rfl

theorem State.restartSettle_other (x : Side) (s : State) :
    (s.restartSettle x).side (otherSide x) = s.side (otherSide x) := by
  cases x <;> rfl

theorem State.drive_side (x : Side) (u : Int) (s : State) :
    (s.drive x u).side x = { s.side x with demand := s.activeBank.shape (s.side x).demand u } := by
  cases x <;> rfl

theorem State.drive_other (x : Side) (u : Int) (s : State) : (s.drive x u).side (otherSide x) = s.side (otherSide x) := by
  cases x <;> rfl

theorem State.countSettle_side (x : Side) (s : State) : (s.countSettle x).side x = { s.side x with
    settle := (s.side x).settle.counted s.activeBank s.station.speed } := by
  cases x <;> rfl

theorem State.countSettle_other (x : Side) (s : State) :
    (s.countSettle x).side (otherSide x) = s.side (otherSide x) := by
  cases x <;> rfl

theorem State.computeTarget_side (x : Side) (s : State) :
    (s.computeTarget x).side x = { s.side x with context := s.contextAfter x } := by
  unfold State.computeTarget
  dsimp only
  cases x <;> simp only [State.side, State.raiseTimes_left, State.raiseTimes_right] <;> rfl

theorem State.computeTarget_plan (x : Side) (s : State) :
    (s.computeTarget x).plan = { s.plan with marks := s.plan.marks.map (s.markAfter x (s.referenceDepth x)) } := by
  unfold State.computeTarget
  dsimp only
  rw [State.raiseTimes_plan]
  cases x <;> rfl

/-- A shaped demand lies within the limits when the held one does (R115). -/
theorem Bank.shape_within {b : Bank} {prev : Int} (u : Int) (h1 : -(b.raiseMax : Int) ≤ prev) (h2 : prev ≤ b.lowerMax) :
    -(b.raiseMax : Int) ≤ b.shape prev u ∧ b.shape prev u ≤ b.lowerMax := by
  unfold Bank.shape Bank.limit bringWithin
  dsimp only
  split <;> split <;> (try split) <;> (try split) <;> omega

theorem bringWithin_within {lo hi : Int} (v : Int) (h : lo ≤ hi) : lo ≤ bringWithin lo hi v ∧ bringWithin lo hi v ≤ hi := by
  unfold bringWithin
  split
  · omega
  · split <;> omega

/-! ### Bytes and fields (R199) -/

@[simp] theorem byteOf_length (v : Nat) : (byteOf v).length = 1 := rfl
@[simp] theorem flagBytes_length (b : Bool) : (flagBytes b).length = 1 := rfl

@[simp] theorem beBytes_length (k v : Nat) : (beBytes k v).length = k := by
  induction k with
  | zero => rfl
  | succ k ih => simp [beBytes, ih]

@[simp] theorem intBytes_length (k : Nat) (v : Int) : (intBytes k v).length = k := by simp [intBytes]

@[simp] theorem presentBytes_length (k : Nat) (v : Option Int) : (presentBytes k v).length = k + 1 := by
  cases v <;> simp [presentBytes, Nat.add_comm]

@[simp] theorem noticeSetBytes_length (bits : List Bool) : (noticeSetBytes bits).length = 3 := by simp [noticeSetBytes]

theorem beNat_append_one (bs : List Byte) (b : Byte) : beNat (bs ++ [b]) = beNat bs * 256 + b.toNat := by
  simp [beNat]

theorem beNat_bound (acc : Nat) (bs : List Byte) :
    bs.foldl (fun a b => a * 256 + b.toNat) acc < (acc + 1) * 256 ^ bs.length := by
  induction bs generalizing acc with
  | nil => simp
  | cons b bs ih =>
    have h1 := ih (acc * 256 + b.toNat)
    have h2 : b.toNat < 256 := b.isLt
    have h3 : (acc * 256 + b.toNat + 1) * 256 ^ bs.length ≤ ((acc + 1) * 256) * 256 ^ bs.length :=
      Nat.mul_le_mul_right _ (by omega)
    simp only [List.foldl_cons, List.length_cons]
    calc _ < _ := h1
      _ ≤ _ := h3
      _ = (acc + 1) * 256 ^ (bs.length + 1) := by rw [Nat.pow_succ, Nat.mul_assoc, Nat.mul_comm 256]

/-- A field of `len` bytes is below 256 to the `len`. -/
theorem fieldAt_lt (p : List Byte) (off len : Nat) : fieldAt p off len < 256 ^ len := by
  have h := beNat_bound 0 ((p.drop off).take len)
  simp only [Nat.zero_add, Nat.one_mul] at h
  exact Nat.lt_of_lt_of_le h (Nat.pow_le_pow_right (by decide) (by simp [Nat.min_le_left]))

theorem divUp_eq {a b : Nat} (hb : 0 < b) : divUp a b = (a + (b - 1)) / b := by
  unfold divUp
  have h := Nat.div_add_mod a b
  have hm := Nat.mod_lt a hb
  have hs : b * (a / b + 1) = b * (a / b) + b := Nat.mul_succ _ _
  split
  · refine (Nat.div_eq_of_lt_le ?_ ?_).symm
    · rw [Nat.mul_comm]; omega
    · rw [Nat.mul_comm]; omega
  · have hs2 : b * (a / b + 1 + 1) = b * (a / b + 1) + b := Nat.mul_succ _ _
    refine (Nat.div_eq_of_lt_le ?_ ?_).symm
    · rw [Nat.mul_comm]; omega
    · rw [Nat.mul_comm]; omega

end Sys2Proof.Machine
end

