-- ==== Sys2Proof/Tests/Slice0.lean ====
section
/-! SUPPORT. The tests: the smoke test of WellFormed, the manual's worked figures run one step at a time, and
for every statement with hypotheses a witness that meets them. Expected values come from the manual. -/
namespace Sys2Proof.Tests
open Sys2Proof.Machine

/-! ### Small states and how a request is put to them -/

/-- A LIVE channel with a zero reference or none, its freshness timer at 300 ms. -/
def liveChannel (address : Nat) (k : Kind) (v : Int) (zero : Option Int) : Channel :=
  ⟨some ⟨address, k, 6⟩, zero, .live, some v, some 0, k = .load, some 300⟩

/-- A class 3 machine at 12,600 with five LIVE channels in the five roles and a sixth, grade one without a
role; both measured depths are 1137 (the figures of section 4.8). -/
def ready : State := { State.reset with
  station := { State.reset.station with station := 12600, valid := true, drumClass := 3 }
  monitor := ⟨#v[liveChannel 1 (.sonic .plus) 7313 (some 8450), liveChannel 2 (.rope .minus) 4120 (some 2983),
    liveChannel 3 .slope 212 none, liveChannel 4 .load 22 none, liveChannel 5 .belt 140 none,
    liveChannel 6 (.rope .minus) 4120 none, emptyChannel, emptyChannel],
    ⟨some 0, some 1, some 2, some 3, some 4⟩⟩ }

/-- The zones of section 1.7. -/
def zone1 : Zone := ⟨1, ⟨12000, 30000, 1200, 1400, 400, 3, none, none⟩, false, false⟩
def zone2 : Zone := ⟨2, ⟨30000, 45000, 3800, 3800, 0, 2, none, some 250⟩, false, true⟩
def zone3 : Zone := ⟨3, ⟨8000, 12000, 900, 900, 0, 1, none, none⟩, false, false⟩

/-- The marks of section 1.8, as inserted. -/
def mark1 : Mark := freshMark 1 ⟨10000, 80, .both, 0, none⟩
def mark2 : Mark := freshMark 2 ⟨10040, 40, .right, 300, some 12⟩
def mark3 : Mark := freshMark 3 ⟨10000, 5, .left, 0, none⟩

/-- `ready` with the plan of sections 1.7 and 1.8, zone 1 governing under HARD. -/
def planned : State := { ready with
  plan := ⟨[zone3, zone1, zone2], [mark1, mark3, mark2], some 1⟩
  banks := { ready.banks with active := .hard } }

/-- A side in AUTO under PLAN with plan depth `p`, at the tracking step. -/
def autoSide (mode : Mode) (p : Int) : SideLoop := { resetSide with
  state := .auto, mode := mode, settle := .tracking
  context := { resetContext with source := .plan, entryDepth := p, entryStation := 12000, planDepth := p, depthTarget := p } }

/-- `planned` in the cut: LEFT in AUTO on depth, RIGHT in AUTO on slope. -/
def cutting : State := { planned with left := autoSide .grade 1300, right := autoSide .slope 1400 }

/-- Everything a held reset leaves empty, with a reset held. -/
def held (k : ResetKind) (s : State) : State := s.hold k

/-- The frame of a request put at the head of an otherwise empty receive queue. -/
def put (i : Instr) (s : State) : State :=
  match requestRow i with
  | some (row, r) => { s with link := { s.link with queue := [requestFrame row.code r] } }
  | none => s

/-- The state a command answers. -/
def ran (i : Instr) (s : State) : State := match exec i s with | .next t => t | _ => s

/-- A request of a requester with a payload and the tag 7. -/
def from' (q : Requester) (p : List Byte) : Request := ⟨q, 7, BitVec.ofNat 8 p.length, p⟩

/-- A CONSOLE request. -/
def con (p : List Byte) : Request := from' .console p

/-- The state after a request put to a state, and its response's data bytes after code and tag. -/
def served (i : Instr) (s : State) : State := ran i (put i s)
def reply (i : Instr) (s : State) : List Byte :=
  match (served i s).link.response with | some m => m.data.drop 2 | none => []

/-! ### WellFormed: a term each check refuses -/

theorem test_wf_ident : (CanFrame.mk false false true 0x800 []).identOk = false := by decide
theorem test_wf_length : (CanFrame.mk false false false 0x301 (List.replicate 9 0)).lengthOk = false := by decide
theorem test_wf_remote : (CanFrame.mk false true true 0x301 []).remoteOk = false := by decide
theorem test_wf_arrival : (Instr.requestArrival ⟨false, false, true, 0x301, List.replicate 10 0⟩).wellFormed = false := by
  decide
theorem test_wf_request : (Instr.presence ⟨.console, 0, 0, List.replicate 62 0⟩).wellFormed = false := by decide
theorem test_wf_frame : (Instr.malformedFrameTaken ⟨.console, List.replicate 65 0⟩).wellFormed = false := by decide
theorem test_wf_reading : (Instr.readingMessage ⟨true, false, false, 2 ^ 29, []⟩).wellFormed = false := by decide
theorem test_wf_ok : (Instr.insertZone (con (List.replicate 20 0))).wellFormed = false ∧
    (Instr.insertZone ⟨.console, 7, 20, List.replicate 21 0⟩).wellFormed = true := by decide

/-! ### Zones and marks (sections 1.7 and 1.8) -/

/-- The bytes of zone 1's record, written out from section 10.6: 12,000 is 2EE0h, 30,000 is 7530h. -/
def zone1Bytes : List Byte := [0, 0, 0x2E, 0xE0, 0, 0, 0x75, 0x30, 0x04, 0xB0, 0x05, 0x78, 0x01, 0x90, 3, 0, 0, 0, 0, 0]

/-- Step 1: the zone takes number 1 and, with S at 11,500, does not govern. -/
theorem test_insertZone_first : reply (.insertZone (con zone1Bytes)) { ready with station.station := 11500 } = [0, 1, 1] ∧
    (served (.insertZone (con zone1Bytes)) { ready with station.station := 11500 }).plan = ⟨[zone1], [], none⟩ := by decide

/-- Step 4: a zone that only touches takes number 3, sorts first and governs at once. -/
theorem test_insertZone_governs :
    (served (.insertZone (con (zoneBytes zone3.fields)))
      { ready with station.station := 11500, plan.zones := [zone1, zone2] }).plan = ⟨[zone3, zone1, zone2], [], some 3⟩ := by
  decide

/-- Step 6: an amendment of the governing zone captures anew at 12,150 from the last plan depth 1012. -/
theorem test_amendZone_captures :
    let s := served (.amendZone (con (1 :: zoneBytes { zone1.fields with leftDepth := 1300 })))
      { cutting with station.station := 12150, left := autoSide .grade 1012 }
    (s.left.context.entryDepth, s.left.context.entryStation, (s.notice .zoneEntered).count, s.plan.governing) =
      (1012, 12150, 1, some 1) := by decide

/-- Step 7: no zone governs, the side holds its plan depth 1300, and the bank stays HARD. -/
theorem test_suspendZone_holds :
    let s := served (.suspendZone (con [1])) cutting
    (s.plan.governing, s.left.context.source, s.left.context.holdDepth, s.banks.active, (s.notice .planGap).cause) =
      (none, .hold, 1300, .hard, true) := by decide

theorem test_reinstateZone_governs :
    (served (.reinstateZone (con [1])) { planned with
      plan.zones := [zone3, { zone1 with suspended := true }, zone2], plan.governing := none }).plan.governing =
      some 1 := by decide

/-- Step 8. -/
theorem test_retireZone_frees : (served (.retireZone (con [1])) planned).plan.zones = [zone3, zone2] := by decide

/-- Step 2's zone 2 reports clipped and PENDING. -/
theorem test_readZone_pending : reply (.readZone (con [2])) planned =
    [0, 23, 2, 0, 0, 0x75, 0x30, 0, 0, 0xAF, 0xC8, 0x0E, 0xD8, 0x0E, 0xD8, 0, 0, 2, 2, 0, 0, 0, 0xFA, 2, 0] := by decide

/-- Step 10: station 30,000 lies in zone 2. -/
theorem test_findZone_boundary : reply (.findZone (con [0, 0, 0x75, 0x30])) planned = [0, 1, 2] := by decide

/-- Step 11: zone 3 ends at 12,000, so the list starts at zone 1. -/
theorem test_listZones_from_end : reply (.listZones (con [0, 0, 0x2E, 0xE0])) planned =
    [0, 21, 1, 2, 0, 1, 0, 0, 0x2E, 0xE0, 0, 0, 0x75, 0x30, 2, 0, 0, 0x75, 0x30, 0, 0, 0xAF, 0xC8] := by decide

/-- Section 1.8, step 2: 10,040 is 2738h, 300 is 012Ch. -/
theorem test_insertMark_right :
    let s := served (.insertMark (con [0, 0, 0x27, 0x38, 0, 40, 2, 0x01, 0x2C, 1, 12])) { ready with plan.marks := [mark1] }
    s.plan.marks = [mark1, ⟨2, ⟨10040, 40, .right, 300, some 12⟩, .clear, .unknown, ⟨false, false, false⟩⟩] := by decide

/-- Step 6: sides BOTH, both positions UNKNOWN. -/
theorem test_amendMark_both :
    let s := served (.amendMark (con [2, 0, 0, 0x27, 0x38, 0, 40, 3, 0x01, 0x2C, 1, 12])) planned
    (s.findMark 2).map (fun m => (m.posLeft, m.posRight)) = some (.unknown, .unknown) := by decide

theorem test_retireMark_order : (served (.retireMark (con [3])) planned).plan.marks = [mark1, mark2] := by decide

/-- Step 3's mark 3: LEFT, no gradient, UNKNOWN on the left and CLEAR on the right. -/
theorem test_readMark_positions : reply (.readMark (con [3])) planned =
    [0, 14, 3, 0, 0, 0x27, 0x10, 0, 5, 1, 0, 0, 0, 0, 3, 0] := by decide

/-- Step 5: marks 1 and 2 reach 10,050, mark 3 does not. -/
theorem test_listMarks_reach : reply (.listMarks (con [0, 0, 0x27, 0x42])) planned =
    [0, 19, 1, 2, 0, 1, 0, 0, 0x27, 0x10, 0, 80, 3, 2, 0, 0, 0x27, 0x38, 0, 40, 2] := by decide

theorem test_clearPlan_empties : (served (.clearPlan (con [])) cutting).plan = ⟨[], [], none⟩ := by decide

/-! ### Geometry and station (Chapter 2) -/

/-- The worked case of section 2.2: capacity 45,000 under a fill of 50,000. -/
theorem test_writeGeometry_spills :
    let s := served (.writeGeometry (con (geometryBytes { defaultGeometry with housingCapacity := 45000 })))
      { ready with conveyor.fill := 50000, conveyor.milled := 9400000, conveyor.delivered := 9350000 }
    (s.conveyor.fill, s.conveyor.spill, s.conveyor.milled, s.conveyor.fillLatch, (s.notice .spill).latch) =
      (45000, 5000, 9400000, true, true) := by decide

/-- The defaults of R32 in the layout of R199, and the figures of class 3. -/
theorem test_readGeometry_defaults : reply (.readGeometry (con [])) ready =
    [0, 37, 0, 250, 135, 0, 250, 20, 0, 100, 1, 0xC2, 0, 0xEA, 0x60, 85, 60, 0, 80, 1, 1, 8, 1, 0x2C, 50, 8, 30,
      5, 0xDC, 50, 0, 220, 3, 8, 0x98, 2, 0x30, 0x0D, 0xAC] := by decide

/-- Carry: 9,800 + 250. The levels are equal, so a change of ENCA is forward. -/
theorem test_encoderCount_carries :
    let s := ran (.encoderCount .encA) { ready with station.station := 12149, station.fine := 9800 }
    (s.station.station, s.station.fine, s.station.accum) = (12150, 50, 250) := by decide

/-- At 0 in the DESCENDING sense a forward count pins S and loses the station. -/
theorem test_encoderCount_pins :
    let s := ran (.encoderCount .encA) { planned with
      station.station := 0, station.fine := 100, station.sense := .descending }
    (s.station.station, s.station.fine, s.station.valid, s.plan.governing) = (0, 0, false, none) := by decide

theorem test_encoderDoubleStep_counts_nothing :
    let s := ran .encoderDoubleStep ready
    (s.station.station, s.station.fine, s.station.accum, s.station.phaseA, s.station.phaseB) = (12600, 0, 0, true, true) := by
  decide

/-- Seven reverse counts of 250 µm give −17. -/
theorem test_speedWindow_truncates : (ran .speedWindowExpiry { ready with station.accum := -1750 }).station.speed = -17 := by
  decide

/-- Steps 1 and 2 of the fixes under plan control: 12,850 is 3232h, 12,800 is 3200h. -/
theorem test_fixStation_too_far : reply (.fixStation (con [0, 0, 0x32, 0x32])) cutting = [11, 0] := by decide
theorem test_fixStation_at_window :
    let s := served (.fixStation (con [0, 0, 0x32, 0x00])) cutting
    (s.station.station, s.plan.governing, (s.notice .zoneEntered).count) = (12800, some 1, 0) := by decide

/-- A value that is no sense is refused before the test for AUTO. -/
theorem test_setTravelSense_order : reply (.setTravelSense (con [3])) cutting = [3, 0] ∧
    reply (.setTravelSense (con [2])) cutting = [7, 0] := by decide

theorem test_readStation_layout : reply (.readStation (con [])) { ready with station.speed := -17 } =
    [0, 10, 0, 0, 0x31, 0x38, 0, 0, 1, 1, 0xFF, 0xEF] := by decide

/-! ### Channels and roles (Chapter 4) -/

/-- A sensor moved to a new address keeps its zero; another channel's address is refused. -/
theorem test_configureChannel_address : reply (.configureChannel (con [5, 1, 2, 255, 6])) ready = [12, 0] ∧
    ((served (.configureChannel (con [0, 9, 1, 1, 6])) ready).channel 0).zero = some 8450 := by decide

theorem test_clearChannel_role :
    let s := served (.clearChannel (con [0])) ready
    (s.channel 0, s.monitor.roles.leftGrade) = (emptyChannel, none) := by decide

/-- Channel 1: ROPE, polarity −1, zero reference 2983, value 4120, depth 1137. -/
theorem test_readChannel_layout : reply (.readChannel (con [1])) ready =
    [0, 21, 1, 2, 2, 6, 255, 1, 0, 0, 0x0B, 0xA7, 1, 1, 0x10, 0x18, 1, 0, 0, 2, 1, 4, 0x71] := by decide

/-- Step 1 of section 4.8: the rope sensor takes over at 4120 − 1137 = 2983, and the depth stays 1137. -/
theorem test_assignRole_bumpless :
    let s := served (.assignRole (con [1, 5])) cutting
    ((s.channel 5).zero, s.measuredDepth .left, (s.channel 0).zero) = (some 2983, some 1137, some 8450) := by decide

theorem test_readRoles_layout : reply (.readRoles (con [])) { ready with monitor.roles.crossSlope := none } =
    [0, 15, 0, 1, 1, 1, 1, 1, 255, 0, 0, 3, 1, 0, 4, 1, 0] := by decide

/-- A depth of 100 entered on a ROPE channel that reads 4120: 4120 − 100. -/
theorem test_setZero_polarity : ((served (.setZero (con [2, 0, 100])) ready).channel 1).zero = some 4020 := by decide

/-- Steps 2 and 4: 4135 reads 1152; a status of 7 rejects, keeps the value and freezes the side. -/
theorem test_reading_accepted :
    (ran (.readingMessage ⟨false, false, false, 0x502, [0x10, 0x27, 0, 0]⟩) ready).measuredDepth .right = some 1152 := by
  decide
theorem test_reading_rejected :
    let s := ran (.readingMessage ⟨false, false, false, 0x501, [0, 0, 7]⟩) cutting
    ((s.channel 0).health, (s.channel 0).value, s.left.state, (s.notice .sensorLost).latch, (s.notice .sideFrozen).cause) =
      (.rejected, some 7313, .frozen, true, true) := by decide

theorem test_freshness_stale :
    let s := ran (.freshnessExpiry 2) cutting
    ((s.channel 2).health, s.left.state, s.right.state) = (.stale, .auto, .frozen) := by decide

/-! ### The Side Loops (Chapters 3, 5 and 6) -/

/-- A SOFT machine with nothing planned, and LEFT as given. -/
def leftIs (d : SideLoop) : State := { ready with left := d }

/-- LEFT in AUTO holding 1200 at the tracking step, with a held demand. -/
def holding (demand : Int) : SideLoop := { autoSide .grade 1200 with
  demand := demand, context := { (autoSide .grade 1200).context with source := .hold, holdDepth := 1200 } }

/-- Section 6.5: at 120 mm/s step 0 is passed over and step 1 entered with 1000 ms. -/
theorem test_engage_settles :
    let s := served (.engage (from' .leftPanel [1])) { ready with station.speed := 120 }
    (s.left.state, s.left.settle, s.left.context.source, s.left.context.holdDepth) =
      (.auto, .settling 1 1000, .hold, 1137) := by decide

theorem test_disengage_stops :
    let s := served (.disengage (con [1])) { cutting with left.demand := 40 }
    (s.left.state, s.left.demand, s.left.settle) = (.idle, 0, .abandoned) := by decide

/-- Section 5.11: the jog keeps the demand of 40, and the first expiry slews it to 20. -/
theorem test_jog_keeps_demand :
    let s := served (.jog (from' .leftPanel [1, 1])) (leftIs (holding 40))
    (s.left.state, s.left.demand, s.left.lease, (ran (.sideIntervalExpiry .left) s).left.demand) =
      (.manual, 40, some ⟨.raise, 250⟩, 20) := by decide
theorem test_jog_other_side : reply (.jog (from' .leftPanel [2, 2])) ready = [8, 0] := by decide

theorem test_jogLease_expires :
    let s := ran (.jogLeaseExpiry .left) (leftIs { resetSide with state := .manual, demand := -50, lease := some ⟨.raise, 0⟩ })
    (s.left.state, s.left.demand, s.left.lease) = (.manual, 0, none) := by decide

/-- Section 5.6: L0 22 and the starting reading, and the first expiry's demand of 20. -/
theorem test_reference_starts :
    let s := served (.reference (from' .leftPanel [1])) ready
    (s.left.referencing, (ran (.sideIntervalExpiry .left) s).left.demand) = (some ⟨22, 7313⟩, 20) := by decide

/-- A load of 31 against 22 + 8 is a touch: the zero reference is the channel's reading. -/
theorem test_sideInterval_touch :
    let s := ran (.sideIntervalExpiry .left) { leftIs { resetSide with
      state := .referencing, demand := 30, referencing := some ⟨14, 8470⟩ } with
      station := { ready.station with geometry := defaultGeometry } }
    (s.left.state, s.left.demand, (s.channel 0).zero, (s.notice .referenceDone).latch) =
      (.manual, 0, some 7313, true) := by decide

/-- Section 5.7, expiry 1: measured 1137 under a target of 1200 from a held 50 gives 70. -/
theorem test_sideInterval_loop : (ran (.sideIntervalExpiry .left) (leftIs (holding 50))).left.demand = 70 := by decide

theorem test_setSideMode_both : reply (.setSideMode (con [1, 2])) cutting = [7, 0] ∧
    reply (.setSideMode (con [1, 2])) { ready with right.mode := .slope } = [7, 0] := by decide

/-- −201 is stored as −200, which is FF38h. -/
theorem test_setTrim_clamps : reply (.setTrim (con [1, 0xFF, 0x37])) ready = [1, 2, 0xFF, 0x38] := by decide

theorem test_readSide_layout : reply (.readSide (con [1])) ready =
    [0, 45, 1, 0, 1, 0, 0, 0, 0, 0, 0, 255, 0, 0, 0, 0, 0, 0, 1, 4, 0x71, 0x80, 0, 1, 0, 0, 0, 0, 0, 0, 0, 0, 0, 0, 0, 0, 0,
      0, 0, 0, 0, 0, 0, 0, 0, 0, 0] := by decide

/-- Section 6.5, expiry 50: the dwell of step 1 runs out at 140 mm/s and step 2 is loaded with 2000 ms. -/
theorem test_settleDwell_next :
    (ran (.settleDwellExpiry .left) { leftIs { holding 0 with settle := .settling 1 20 } with
      station := { ready.station with speed := 140 } }).left.settle = .settling 2 2000 := by decide

/-! ### Target depth (Chapter 3) -/

/-- Section 3.5: the manhole at 9,900 under T = 1200 gives 520. -/
theorem test_target_manhole :
    let s := ran (.sideIntervalExpiry .left) { leftIs (holding 0) with
      plan := ⟨[], [mark1], none⟩, station := { ready.station with station := 9900 } }
    (s.left.context.depthTarget, s.plan.marks.map Mark.posLeft) = (520, [.approach]) := by decide

/-- Section 3.6: at 9,936 the valve box begins an override at the measured 1150, with a target of 1140. -/
theorem test_target_override :
    let s := ran (.sideIntervalExpiry .right) { (ready.setChannel 1 (liveChannel 2 (.rope .minus) 4133 (some 2983))) with
      plan := ⟨[], [mark2], none⟩, right := { autoSide .slope 1150 with context.source := .hold }
      station := { ready.station with station := 9936 } }
    (s.right.context.override, s.right.context.basis, s.right.context.depthTarget, s.right.context.offer) =
      (some 1150, .depth, 1140, some 125) := by decide

/-- Section 3.2: 900 + trunc(300 × 150 / 400) = 1012 at 12,150. -/
theorem test_ramp_depth : rampDepth 900 1200 400 150 = 1012 ∧ rampDepth 1500 1200 400 150 = 1388 := by decide

/-- Section 5.7, slope control: 38 across 2200 mm is 83, and the raw demand 109. -/
theorem test_slope_control :
    (ran (.sideIntervalExpiry .right) { ready with
      right := { autoSide .slope 0 with demand := 100, context := { resetContext with heldSlope := 250 } } }).right.demand =
      109 := by decide

/-! ### Banks and the governor (Chapters 6 and 7) -/

/-- A held raise of 150 comes down to 120 when the active bank's raise max does. -/
theorem test_writeBank_limits :
    (served (.writeBank (con (1 :: bankBytes { defaultSoft with raiseMax := 120 }))) (leftIs (holding (-150)))).left.demand =
      -120 := by decide

/-- The SOFT defaults of R122 in the layout of R199. -/
theorem test_readBank_defaults : reply (.readBank (con [1])) ready =
    [0, 21, 10, 48, 36, 28, 24, 10, 10, 20, 0, 100, 0, 200, 2, 0x58, 0, 150, 0, 200, 20, 85, 1] := by decide

/-- Section 7.8: the cap of 120 lowers a ceiling of 250 at once. -/
theorem test_setAdvanceCap_lowers :
    let s := served (.setAdvanceCap (con [0, 120])) { ready with governor.ceiling := 250, governor.reason := .zone }
    (s.governor.cap, s.governor.ceiling, s.governor.reason) = (120, 120, .operator) := by decide
theorem test_setAdvanceCap_clamps : reply (.setAdvanceCap (con [0xFF, 0xFF])) ready = [1, 2, 0, 0] := by decide

theorem test_readGovernor_after_reset : reply (.readGovernor (con [])) State.reset =
    [0, 13, 0, 0, 0, 0, 0, 2, 0x58, 0, 0, 0, 0, 0, 0] := by decide

/-- Section 7.8, expiry 2: OPERATOR 300, ZONE 250, LOAD 210, PROFILE 187. -/
theorem test_governorInterval_profile :
    let s := ran .governorIntervalExpiry { planned with
      plan.governing := some 2, governor.cap := 300, governor.reduction := 30, left.context.offer := some 187 }
    (s.governor.ceiling, s.governor.reason, s.sensorLink.ceilingMessage) = (187, .profile, some [0, 187, 4, 0]) := by decide

/-- Expiry 7: FILL is named before LINK. -/
theorem test_governorInterval_stops :
    let s := ran .governorIntervalExpiry { ready with conveyor.fillLatch := true, link.linkLoss := true }
    (s.governor.ceiling, s.governor.reason) = (0, .fill) := by decide

/-- Section 7.7, windows 2 and 5: 83 under HARD steps up from 0; 99 stalls. -/
theorem test_loadWindow_step :
    let s := ran .loadWindowExpiry (planned.setChannel 3 (liveChannel 4 .load 83 none))
    (s.governor.reduction, (s.notice .loadHigh).latch) = (10, true) := by decide
theorem test_loadWindow_stall :
    let s := ran .loadWindowExpiry { (planned.setChannel 3 (liveChannel 4 .load 99 none)) with governor.reduction := 30 }
    (s.governor.reduction, (s.notice .stallGuard).latch, (s.notice .loadHigh).latch) = (100, true, false) := by decide

/-! ### The conveyor (Chapter 8) -/

/-- A conveyor in a state, its belt at a speed, the drum in the cut. -/
def belt (v : ConveyorState) (speed : Nat) : Conveyor := { resetConveyor with
  state := v, beltSpeed := speed, inCut := true, neededSpeed := some 257, truckTarget := 20000, truckCounter := 1999700
  milled := 48000000, delivered := 48000000 }

/-- The machine of section 8.10: 1200 on both sides at 150 mm/s. -/
def milling (c : Conveyor) : State := { ((ready.setChannel 0 (liveChannel 1 (.sonic .plus) 7250 (some 8450))).setChannel 1
  (liveChannel 2 (.rope .minus) 4183 (some 2983))) with
  conveyor := c, station := { ready.station with speed := 150 } }

/-- Section 8.11, intervals 1 and 2: the truck is full, then the housing fills. -/
theorem test_conveyorInterval_truck_full :
    let s := ran .conveyorIntervalExpiry (milling (belt .running 257))
    (s.conveyor.state, s.conveyor.lastInflow, s.conveyor.neededSpeed, s.conveyor.truckCounter, s.conveyor.fill,
      (s.notice .truckFull).latch) = (.held, 534, some 257, 2000234, 0, true) := by decide

/-- Section 8.12: the tenth interval at 240 bar blocks the belt before the fill step. -/
theorem test_conveyorInterval_blocked :
    let s := ran .conveyorIntervalExpiry ((milling { belt .running 257 with truckTarget := 0, blockCount := 9 }).setChannel 4
      (liveChannel 5 .belt 240 none))
    (s.conveyor.state, s.conveyor.blockCount, s.conveyor.fill, (s.notice .beltBlocked).cause) = (.blocked, 0, 534, true) := by
  decide

theorem test_runOn_expires :
    (ran .runOnExpiry { ready with conveyor := { belt .runOn 257 with runOnSpeed := some 257, runOnCount := 1 } }).conveyor.state =
      .stopped := by decide

theorem test_conveyorStart_held : reply (.conveyorStart (con [])) (milling (belt .held 0)) = [7, 0] := by decide

/-- The run-on is loaded with the default of 80. -/
theorem test_conveyorStop_runs_on :
    let s := served (.conveyorStop (con [])) (milling (belt .running 257))
    (s.conveyor.state, s.conveyor.runOnSpeed, s.conveyor.runOnCount) = (.runOn, some 257, 80) := by decide

/-- 500 cm/s is stored as the belt maximum of 450. -/
theorem test_setBeltMode_clamps : reply (.setBeltMode (con [2, 1, 0xF4])) ready = [1, 3, 2, 1, 0xC2] := by decide

theorem test_truckAway_stopped : reply (.truckAway (con [])) ready = [7, 0] := by decide

theorem test_truckReady_starts :
    let s := served (.truckReady (con [])) (milling (belt .held 0))
    (s.conveyor.state, s.conveyor.beltSpeed, s.conveyor.truckCounter) = (.running, 257, 0) := by decide

/-- 40,001 L is stored as 40,000, which is 9C40h. -/
theorem test_setTruckTarget_clamps : reply (.setTruckTarget (con [0, 0, 0x9C, 0x41])) ready = [1, 2, 0x9C, 0x40] := by decide

/-- Section 8.12: refused at 231 bar, taken at 35. -/
theorem test_clearBlock_pressure :
    reply (.clearBlock (con [])) ((milling (belt .blocked 0)).setChannel 4 (liveChannel 5 .belt 231 none)) = [7, 0] ∧
    reply (.clearBlock (con [])) ((milling (belt .blocked 0)).setChannel 4 (liveChannel 5 .belt 35 none)) = [0, 0] := by decide

theorem test_clearTotals_keeps_fill :
    let s := served (.clearTotals (con [])) (milling { belt .held 0 with fill := 534, milled := 48000534 })
    (s.conveyor.milled, s.conveyor.delivered, s.conveyor.fill) = (534, 0, 534) := by decide

theorem test_readConveyor_layout : reply (.readConveyor (con [])) State.reset =
    [0, 42, 0, 1, 0, 100, 0, 0, 0, 0, 0, 0, 0, 0, 0, 0, 0, 0, 0, 0, 0, 0, 0, 0, 0, 0, 0, 0, 0, 0, 0, 0, 0, 0, 0, 0, 0, 0,
      0, 0, 0, 0, 0, 0] := by decide

/-- Section 8.10: 257 cm/s is 616 of 1200 cycles high, and a held demand of 0 is half. -/
theorem test_outputs : (milling (belt .running 257)).beltHigh = 616 ∧ (milling (belt .running 257)).liftHigh .left = 600 := by
  decide

/-! ### Notices (section 9.5's shift) -/

/-- Step 3: COLD_START is acknowledged and the line released. -/
theorem test_acknowledge_releases :
    reply (.acknowledgeNotices (con [0, 0, 1])) State.reset = [0, 3, 0, 0, 0] ∧
    (served (.acknowledgeNotices (con [0, 0, 1])) State.reset).notices.alertLow = false := by decide

/-- Step 7: TRUCK_FULL (13, bit 5 of the middle byte) re-latches while the truck is full. -/
theorem test_acknowledge_relatches :
    reply (.acknowledgeNotices (from' .planTerminal [0, 0x20, 0x14])) ((milling (belt .held 0)).tellCause .truckFull true) =
      [0, 3, 0, 0x20, 1] := by decide

theorem test_setNoticeMask_releases : (served (.setNoticeMask (con [0, 0, 1])) State.reset).notices.alertLow = false ∧
    reply (.setNoticeMask (con [0x08, 0, 0])) State.reset = [3, 0] := by decide

theorem test_readNotices_after_reset : reply (.readNotices (con [])) State.reset =
    [0, 29, 0, 0, 1, 0, 0, 0, 0, 0, 0, 1, 0, 0, 0, 0, 0, 0, 0, 0, 0, 0, 0, 0, 0, 0, 0, 0, 0, 0, 1] := by decide

/-! ### The links and the resets (Chapter 10) -/

/-- Section 10.3: PRESENCE finds four frames waiting, is discarded, and still ends the link loss. -/
theorem test_arrival_overrun :
    let f : Frame := ⟨.rightPanel, [0x42, 0, 2, 2, 1]⟩
    let s := ran (.requestArrival ⟨false, false, true, 0x301, [0x7E, 0, 0]⟩) { ready with
      link := { ready.link with queue := [f, f, f, f], linkLoss := true, supervision := none } }
    (s.link.queue.length, s.link.linkLoss, s.link.supervision, (s.notice .requestOverrun).count) =
      (4, false, some 1500, 1) := by decide

/-- A frame of one byte is answered BAD_REQUEST with 0 for its tag. -/
theorem test_malformed_short :
    (ran (.malformedFrameTaken ⟨.leftPanel, [0x42]⟩) { ready with
      link := { ready.link with queue := [⟨.leftPanel, [0x42]⟩] } }).link.response =
      some ⟨.leftPanel, [0x42, 0, 2, 0], 100, none⟩ := by decide

/-- A slot whose list has a second segment. -/
def segmented : State := { ready with link := { ready.link with response := some ⟨.console, [0x17], 40, some [0x18]⟩ } }

theorem test_responseSent_second : (ran .responseSent segmented).link.response = some ⟨.console, [0x18], 100, none⟩ := by decide
/-- Section 10.1: with a broadcast in its slot the broadcast is sent first, and only a discard takes the response. -/
theorem test_broadcast_first :
    let s := ran .statusBroadcast segmented
    s.planLinkSends.map SentFrame.ident = some 0x380 ∧ (ran .responseSent s).link.response = segmented.link.response ∧
    (ran .responseDiscard s).link.response = some ⟨.console, [0x18], 100, none⟩ ∧
    (ran .broadcastSent s).planLinkSends = some ⟨true, 0x381, [0x17]⟩ := by decide

/-- The ceiling message goes out on 4F0h in the classical format. -/
theorem test_ceilingMessage_frame :
    (ran .governorIntervalExpiry ready).sensorLinkSends.map SentFrame.ident = some 0x4F0 := by decide

theorem test_responseDiscard_second : (ran .responseDiscard segmented).link.response = some ⟨.console, [0x18], 100, none⟩ := by
  decide

/-- The broadcast after a cold reset: station 0 INVALID, both sides IDLE under HOLD, reason RESET. -/
theorem test_statusBroadcast_layout : (ran .statusBroadcast State.reset).link.broadcast =
    some [0, 0, 0, 0, 0, 1, 0, 0, 1, 0, 0, 0, 0x80, 0, 0, 0, 0, 1, 0, 0, 0, 0x80, 0, 0, 0, 0, 0, 0, 0, 0, 0, 0, 0, 0, 0, 0, 0, 0,
      0, 0, 1, 0] := by decide
theorem test_broadcastSent_empties : (ran .broadcastSent (ran .statusBroadcast ready)).link.broadcast = none := by decide

theorem test_supervision_in_auto :
    let s := ran .supervisionExpiry cutting
    (s.link.linkLoss, s.link.supervision, (s.notice .linkLost).latch) = (true, none, true) := by decide

theorem test_ceilingMessage_sent : (ran .ceilingMessageSent (ran .governorIntervalExpiry ready)).sensorLink.ceilingMessage =
    none := by decide

theorem test_presence_done : reply (.presence (from' .planTerminal [])) ready = [0, 0] ∧
    reply (.presence (from' .leftPanel [])) ready = [8, 0] := by decide

/-- RESTART waits for its response to leave. -/
theorem test_restart_waits :
    let s := served (.restart (con [])) cutting
    ((ran .restartResetStart s).heldReset, (ran .restartResetStart (ran .responseSent s)).heldReset) = (none, some .warm) := by
  decide

theorem test_reset_cold_over_warm : (ran (.resetAssert .supply) (held .warm ready)).heldReset = some .cold ∧
    (ran (.resetAssert .resetPin) (held .cold ready)).heldReset = some .cold := by decide

theorem test_coldRelease_class :
    let s := ran (.coldResetRelease true false false true) (held .cold cutting)
    (s.station.drumClass, s.station.phaseB, s.plan, s.notices.alertLow) = (2, true, ⟨[], [], none⟩, true) := by decide

/-- Section 1.8, step 7: mark 3 UNKNOWN on the left, CLEAR on the right; no zone governs. -/
theorem test_warmRelease_keeps :
    let s := ran (.warmResetRelease false false) (held .warm cutting)
    (s.plan, s.station.station, s.station.valid, s.right.mode, s.right.state) =
      (⟨[zone3, zone1, zone2], [mark1, mark3, mark2], none⟩, 12600, false, .slope, .idle) := by decide

theorem test_warmRelease_notices :
    let s := ran (.warmResetRelease false false) (held .warm cutting)
    ((s.notice .warmRestart).count, (s.notice .sensorLost).cause, (s.notice .coldStart).latch) = (1, true, false) := by decide

/-- An idle step takes a millisecond off the timers, and an expiry starts the next period. -/
theorem test_timers_run :
    let s := match step { ready with timers.governor := 3 } with | .next t => t | _ => ready
    (s.timers.governor, (ran .governorIntervalExpiry s).timers.governor, s.timers.leftSide) = (2, 50, 19) := by decide

/-- No word of the opcode table spells a command. -/
theorem test_decode_none : decodeTableWord 32 0x10 = none := by decide

/-! ### Witnesses: states and operands that meet the statements' hypotheses

`Met i s P`: the request `i`, its frame put at the head of `s`, is served, and the state `t` it is served in
and its payload `p` satisfy the other hypotheses `P t p`. -/

/-- The data a request carries, cut at its row's size. -/
def carried (i : Instr) : List Byte :=
  match requestRow i with
  | some (row, r) => r.body.take row.size
  | none => []

/-- The interface serves this request here, as one test. -/
def isServed (i : Instr) (s : State) : Bool :=
  match requestRow i with
  | some (row, r) => s.heldReset.isNone && s.link.response.isNone && !s.link.restartTaken &&
      (s.link.queue.head? == some (requestFrame row.code r)) && (r.plen.toNat == row.size) &&
      decide (row.size ≤ r.body.length) && row.grant.admits r.requester (r.body.take row.size)
  | none => false

def Met (i : Instr) (s : State) (P : State → List Byte → Prop) : Prop :=
  ∃ row r, (put i s).serves i row r ∧ P (put i s) (r.body.take row.size)

theorem met {i : Instr} {s : State} {P : State → List Byte → Prop} (h : isServed i (put i s) = true)
    (hp : P (put i s) (carried i)) : Met i s P := by
  generalize ht : put i s = t at h hp
  unfold isServed at h
  unfold carried at hp
  cases hr : requestRow i with
  | none => simp [hr] at h
  | some v =>
    obtain ⟨row, r⟩ := v
    simp only [hr, Bool.and_eq_true, Option.isNone_iff_eq_none, Bool.not_eq_true', beq_iff_eq,
      decide_eq_true_eq] at h hp
    obtain ⟨⟨⟨⟨⟨⟨h1, h2⟩, h3⟩, h4⟩, h5⟩, h6⟩, h7⟩ := h
    refine ⟨row, r, ?_, ?_⟩
    · rw [ht]; exact ⟨hr, ⟨h1, h2, h3, h4⟩, ⟨h5, h6⟩, h7⟩
    · rw [ht]; exact hp

/-- Bounded numbers, from a list that can be searched. -/
theorem allUpTo {n : Nat} {l : List Nat} (h : ∀ k ∈ List.range' 1 n, k ∈ l) : ∀ k, 1 ≤ k → k ≤ n → k ∈ l :=
  fun k h1 h2 => h k (List.mem_range'_1.mpr ⟨h1, by omega⟩)

theorem wit_EmptyQueuePassesOneMillisecond :
    ((held .warm ready).pending = [] ∧ (held .warm ready).heldReset ≠ none) ∧
    (ready.pending = [] ∧ ready.heldReset = none) := by decide

theorem wit_ServedRequestsAreAnsweredOnce :
    Met (.presence (con [])) ready (fun _ _ => True) ∧ Met (.readZone (con [5])) ready (fun _ _ => True) ∧
    Met (.restart (con [])) ready (fun _ _ => True) := by
  refine ⟨met ?_ trivial, met ?_ trivial, met ?_ trivial⟩ <;> decide

/-- The frame of `i` at the head of `s`. -/
def AtHead (i : Instr) (s : State) (P : RequestRow → Request → Prop) : Prop :=
  ∃ row r, requestRow i = some (row, r) ∧ (put i s).atHead row.code r ∧ P row r

/-- A wrong length byte, one data byte missing, one in excess (which fits), and no permission. -/
theorem wit_RequestChecksComeInOrder :
    AtHead (.presence ⟨.console, 7, 1, []⟩) ready (fun row r => ¬ sizedAs row.size r) ∧
    AtHead (.readZone ⟨.console, 7, 1, []⟩) ready (fun row r => ¬ sizedAs row.size r) ∧
    AtHead (.clearPlan ⟨.planTerminal, 7, 0, [0]⟩) ready (fun row r => sizedAs row.size r ∧
      row.grant.admits r.requester (r.body.take row.size) = false) ∧
    AtHead (.engage (from' .leftPanel [2])) ready (fun row r => sizedAs row.size r ∧
      row.grant.admits r.requester (r.body.take row.size) = false) := by
  refine ⟨⟨_, _, rfl, ⟨rfl, rfl, rfl, rfl⟩, ?_⟩, ⟨_, _, rfl, ⟨rfl, rfl, rfl, rfl⟩, ?_⟩,
    ⟨_, _, rfl, ⟨rfl, rfl, rfl, rfl⟩, ?_⟩, ⟨_, _, rfl, ⟨rfl, rfl, rfl, rfl⟩, ?_⟩⟩ <;> unfold sizedAs <;> decide

theorem wit_RefusedRequestsChangeNothing :
    let i : Instr := .readZone (con [5])
    ∃ m : ResponseSlot, AtHead i ready (fun _ _ => True) ∧ exec i (put i ready) = .next (served i ready) ∧
      (served i ready).link.response = some m ∧ m.data.getD 2 0 = BitVec.ofNat 8 (Status.code .noRecord) ∧
      Status.accepted .noRecord = false :=
  ⟨⟨.console, [0x15, 7, 6, 0], 100, none⟩, ⟨_, _, rfl, ⟨rfl, rfl, rfl, rfl⟩, trivial⟩, rfl, by decide, by decide, rfl⟩

/-- A held reset, a full slot, a waiting RESTART, another frame at the head; and the empty queue. -/
theorem wit_RequestsWaitForTheirTurn :
    requestRow (.presence (con [])) ≠ none ∧ (held .cold ready).heldReset ≠ none ∧ segmented.link.response ≠ none ∧
    (served (.restart (con [])) ready).link.restartTaken = true ∧
    (put (.readRoles (con [])) ready).link.queue.head? ≠ some (requestFrame 0x7E (con [])) ∧
    (ready.heldReset = none ∧ ready.link.response = none ∧ ready.link.restartTaken = false ∧ ready.link.queue = []) := by
  decide

/-- Numbers 0 and 65 and 1 and 64 for zones, 0 and 33 and 1 and 32 for marks. -/
theorem wit_NumberedRequestsTestTheirNumber :
    Met (.amendZone (con (List.replicate 21 0))) ready (fun _ p => fieldAt p 0 1 = 0) ∧
    Met (.readZone (con [65])) ready (fun _ p => 64 < fieldAt p 0 1) ∧
    Met (.suspendZone (con [1])) ready (fun t p => 1 ≤ fieldAt p 0 1 ∧ ∀ z ∈ t.plan.zones, z.number ≠ fieldAt p 0 1) ∧
    Met (.retireZone (con [64])) planned (fun t p => fieldAt p 0 1 ≤ 64 ∧ ∀ z ∈ t.plan.zones, z.number ≠ fieldAt p 0 1) ∧
    Met (.retireMark (con [0])) ready (fun _ p => fieldAt p 0 1 = 0) ∧
    Met (.readMark (con [33])) ready (fun _ p => 32 < fieldAt p 0 1) ∧
    Met (.readMark (con [1])) ready (fun t p => 1 ≤ fieldAt p 0 1 ∧ ∀ m ∈ t.plan.marks, m.number ≠ fieldAt p 0 1) ∧
    Met (.amendMark (con (32 :: List.replicate 11 0))) planned
      (fun t p => fieldAt p 0 1 ≤ 32 ∧ ∀ m ∈ t.plan.marks, m.number ≠ fieldAt p 0 1) := by
  refine ⟨met ?_ ?_, met ?_ ?_, met ?_ ?_, met ?_ ?_, met ?_ ?_, met ?_ ?_, met ?_ ?_, met ?_ ?_⟩ <;> decide

/-- A full zone table and a full mark table. -/
def fullZones : State := { ready with
  plan.zones := (List.range' 1 64).map (fun n => ⟨n, ⟨n * 100, n * 100 + 100, 0, 0, 0, 1, none, none⟩, false, false⟩) }
def fullMarks : State := { ready with
  plan.marks := (List.range' 1 32).map (fun n => freshMark n ⟨n * 100, 1, .both, 0, none⟩) }

/-- A zone without extent, an overlap, a full table, a touching clipped zone under number 4 of the least length, and one under 1. -/
theorem wit_InsertZoneStoresTheRecord :
    Met (.insertZone (con (zoneBytes { zone1.fields with stop := 12000 }))) ready (fun _ p => checkedZone p = none) ∧
    Met (.insertZone (con zone1Bytes)) planned (fun t p => checkedZone p = some zone1.fields ∧
      ∃ z ∈ t.plan.zones, z.fields.start < zone1.fields.stop ∧ zone1.fields.start < z.fields.stop) ∧
    Met (.insertZone (con zone1Bytes)) fullZones (fun t p => checkedZone p = some zone1.fields ∧
      (∀ z ∈ t.plan.zones, ¬(z.fields.start < zone1.fields.stop ∧ zone1.fields.start < z.fields.stop)) ∧
      ∀ n, 1 ≤ n → n ≤ 64 → n ∈ t.plan.zones.map Zone.number) ∧
    Met (.insertZone (con (zoneBytes { zone2.fields with start := 45000, stop := 45010 }))) planned (fun t p =>
      checkedZone p = some { zone2.fields with start := 45000, stop := 45010 } ∧
      (∀ z ∈ t.plan.zones, ¬(z.fields.start < 45010 ∧ 45000 < z.fields.stop)) ∧
      4 ∉ t.plan.zones.map Zone.number ∧ (∀ m, 1 ≤ m → m ≤ 3 → m ∈ t.plan.zones.map Zone.number) ∧
      t.maxDepth < zone2.fields.leftDepth ∧ t.plan.zones.Pairwise (fun a b => a.fields.start ≤ b.fields.start)) ∧
    Met (.insertZone (con zone1Bytes)) ready (fun t p => checkedZone p = some zone1.fields ∧ t.plan.zones = []) := by
  refine ⟨met ?_ ?_, met ?_ ?_, met ?_ ⟨?_, ?_, allUpTo ?_⟩, met ?_ ⟨?_, ?_, ?_, allUpTo ?_, ?_, ?_⟩, met ?_ ?_⟩ <;> decide

/-- Zone 1 amended: to no extent, over zone 2, and to the station where zone 2 begins. -/
theorem wit_AmendZoneReplacesTheFields :
    Met (.amendZone (con (1 :: zoneBytes { zone1.fields with stop := 12000 }))) planned
      (fun t p => t.findZone (fieldAt p 0 1) = some zone1 ∧ checkedZone (p.drop 1) = none) ∧
    Met (.amendZone (con (1 :: zoneBytes { zone1.fields with stop := 30001 }))) planned (fun t p =>
      t.findZone (fieldAt p 0 1) = some zone1 ∧ checkedZone (p.drop 1) = some { zone1.fields with stop := 30001 } ∧
      ∃ y ∈ t.plan.zones, y.number ≠ fieldAt p 0 1 ∧ y.fields.start < 30001 ∧ 12000 < y.fields.stop) ∧
    Met (.amendZone (con (1 :: zone1Bytes))) planned (fun t p =>
      t.findZone (fieldAt p 0 1) = some zone1 ∧ checkedZone (p.drop 1) = some zone1.fields ∧
      (∀ y ∈ t.plan.zones, y.number ≠ fieldAt p 0 1 → ¬(y.fields.start < 30000 ∧ 12000 < y.fields.stop)) ∧
      t.plan.zones.Pairwise (fun a b => a.fields.start ≤ b.fields.start)) := by
  refine ⟨met ?_ ?_, met ?_ ?_, met ?_ ?_⟩ <;> decide

theorem wit_ZonesAreSuspendedReinstatedAndRetired :
    Met (.suspendZone (con [1])) planned (fun t p => t.findZone (fieldAt p 0 1) = some zone1 ∧ zone1.suspended ≠ true) ∧
    Met (.reinstateZone (con [1])) planned (fun t p => t.findZone (fieldAt p 0 1) = some zone1 ∧
      zone1.suspended = false) ∧
    Met (.retireZone (con [1])) planned (fun t p => t.findZone (fieldAt p 0 1) = some zone1) ∧
    Met (.clearPlan (con [])) planned (fun _ _ => True) := by
  refine ⟨met ?_ ?_, met ?_ ?_, met ?_ ?_, met ?_ trivial⟩ <;> decide

/-- Zone 1 in force and governing, not governing, or amended; at 45,000 no zone is in force. -/
theorem wit_ReevaluationSettlesGovernance :
    (ZonesOk planned ∧ zone1 ∈ planned.plan.zones ∧ planned.inForce zone1 ∧ planned.plan.governing = some 1) ∧
    (ZonesOk { planned with plan.governing := none } ∧ { planned with plan.governing := none }.inForce zone1) ∧
    planned.plan.governing ≠ none ∧
    (ZonesOk { planned with station.station := 45000 } ∧
      ∀ z ∈ planned.plan.zones, ¬ ({ planned with station.station := 45000 } : State).inForce z) := by
  unfold ZonesOk State.inForce
  decide

/-- A record out of range, a full table, numbers 1 and 4 free, and mark 2 amended and retired. -/
theorem wit_MarksAreStoredAndRetired :
    Met (.insertMark (con (markBytes { mark1.fields with length := 0 }))) ready
      (fun t p => checkedMark t.maxDepth p = none) ∧
    Met (.insertMark (con (markBytes mark1.fields))) fullMarks (fun t p =>
      checkedMark t.maxDepth p = some mark1.fields ∧ ∀ n, 1 ≤ n → n ≤ 32 → n ∈ t.plan.marks.map Mark.number) ∧
    Met (.insertMark (con (markBytes mark2.fields))) planned (fun t p =>
      checkedMark t.maxDepth p = some mark2.fields ∧ 4 ∉ t.plan.marks.map Mark.number ∧
      (∀ m, 1 ≤ m → m ≤ 3 → m ∈ t.plan.marks.map Mark.number) ∧ t.plan.marks.Pairwise (fun a b =>
        a.fields.start < b.fields.start ∨ (a.fields.start = b.fields.start ∧ a.number ≤ b.number))) ∧
    Met (.amendMark (con (2 :: markBytes { mark2.fields with clearance := 3501 }))) planned (fun t p =>
      t.findMark (fieldAt p 0 1) = some mark2 ∧ checkedMark t.maxDepth (p.drop 1) = none) ∧
    Met (.amendMark (con (2 :: markBytes mark1.fields))) planned (fun t p =>
      t.findMark (fieldAt p 0 1) = some mark2 ∧ checkedMark t.maxDepth (p.drop 1) = some mark1.fields) ∧
    Met (.retireMark (con [2])) planned (fun t p => t.findMark (fieldAt p 0 1) = some mark2) := by
  refine ⟨met ?_ ?_, met ?_ ⟨?_, allUpTo ?_⟩, met ?_ ⟨?_, ?_, allUpTo ?_, ?_⟩, met ?_ ?_, met ?_ ?_, met ?_ ?_⟩ <;> decide

/-- FIND ZONE past the last station, on an end that is no zone's, and on a zone's first station; the lists at
9,999,999 and past it, and of more than six and more than twelve entries. -/
theorem wit_PlanReadsReportTheRecords :
    Met (.readZone (con [2])) planned (fun t p => t.findZone (fieldAt p 0 1) = some zone2) ∧
    Met (.findZone (con [0, 0x98, 0x96, 0x80])) planned (fun _ p => 9999999 < fieldAt p 0 4) ∧
    Met (.findZone (con [0, 0, 0xAF, 0xC8])) planned (fun t p =>
      ∀ z ∈ t.plan.zones, ¬(z.fields.start ≤ fieldAt p 0 4 ∧ fieldAt p 0 4 < z.fields.stop)) ∧
    Met (.findZone (con [0, 0, 0x75, 0x30])) planned (fun t p => ZonesOk t ∧ zone2 ∈ t.plan.zones ∧
      zone2.fields.start ≤ fieldAt p 0 4 ∧ fieldAt p 0 4 < zone2.fields.stop) ∧
    Met (.readMark (con [2])) planned (fun t p => t.findMark (fieldAt p 0 1) = some mark2) ∧
    Met (.listZones (con [0, 0x98, 0x96, 0x80])) planned (fun _ p => 9999999 < fieldAt p 0 4) ∧
    Met (.listZones (con [0, 0x98, 0x96, 0x7F])) planned (fun _ p => fieldAt p 0 4 = 9999999) ∧
    Met (.listMarks (con [0, 0, 0, 0])) fullMarks (fun t p => fieldAt p 0 4 = 0 ∧ 12 < t.plan.marks.length) := by
  refine ⟨met ?_ ?_, met ?_ ?_, met ?_ ?_, met ?_ ?_, met ?_ ?_, met ?_ ?_, met ?_ ?_, met ?_ ?_⟩ <;>
    (try unfold ZonesOk) <;> decide

/-- No side, no role: from each of them. -/
theorem noSide {P : Side → Prop} (h1 : ¬ P .left) (h2 : ¬ P .right) : ¬ ∃ x, P x :=
  fun ⟨x, h⟩ => match x with
    | .left => h1 h
    | .right => h2 h
theorem noRole {P : Role → Prop} (h : ∀ q ∈ allRoles, ¬ P q) : ¬ ∃ q, P q :=
  fun ⟨q, hq⟩ => h q (by cases q <;> decide) hq

/-- A step of 9 is out of range; a capacity below the fill, and one at it. -/
theorem wit_WriteGeometryReplacesTheRecord :
    Met (.writeGeometry (con (geometryBytes { defaultGeometry with encoderDistance := 9 }))) ready
      (fun _ p => checkedGeometry p = none) ∧
    Met (.writeGeometry (con (geometryBytes { defaultGeometry with housingCapacity := 45000 })))
      { ready with conveyor.fill := 45001 } (fun t p => 45000 < t.conveyor.fill ∧
        checkedGeometry p = some { defaultGeometry with housingCapacity := 45000 }) ∧
    Met (.writeGeometry (con (geometryBytes defaultGeometry))) ready (fun _ p => checkedGeometry p = some defaultGeometry) := by
  refine ⟨met ?_ ?_, met ?_ ?_, met ?_ ?_⟩ <;> decide

/-- Fixes at 10,000,000, 201 mm and 200 mm away under plan control, and on the same station out of it; a sense
of 0, a sense with a side in AUTO and one without. -/
theorem wit_StationRequestsMoveTheStation :
    Met (.fixStation (con [0, 0x98, 0x96, 0x80])) ready (fun _ p => 9999999 < fieldAt p 0 4) ∧
    Met (.fixStation (con [0, 0, 0x32, 0x01])) cutting (fun t p => fieldAt p 0 4 ≤ 9999999 ∧ t.station.valid = true ∧
      (∃ x, (t.side x).state = .auto ∧ (t.side x).context.source = .plan) ∧ t.station.station + 200 < fieldAt p 0 4) ∧
    Met (.fixStation (con [0, 0, 0x32, 0x00])) cutting (fun t p => fieldAt p 0 4 ≤ 9999999 ∧
      ¬(fieldAt p 0 4 + 200 < t.station.station ∨ t.station.station + 200 < fieldAt p 0 4)) ∧
    Met (.fixStation (con [0, 0, 0x31, 0x38])) ready (fun t p => t.station.station = fieldAt p 0 4 ∧
      t.station.valid = true ∧ ¬ ∃ x, (t.side x).state = .auto ∧ (t.side x).context.source = .plan) ∧
    Met (.setTravelSense (con [0])) ready (fun _ p => fieldAt p 0 1 ≠ 1 ∧ fieldAt p 0 1 ≠ 2) ∧
    Met (.setTravelSense (con [1])) cutting (fun t p => fieldAt p 0 1 = 1 ∧ ∃ x, (t.side x).state = .auto) ∧
    Met (.setTravelSense (con [2])) ready (fun t p => fieldAt p 0 1 = 2 ∧ ¬ ∃ x, (t.side x).state = .auto) := by
  refine ⟨met ?_ ?_, met ?_ ⟨?_, ?_, ⟨.left, ?_⟩, ?_⟩, met ?_ ?_, met ?_ ⟨?_, ?_, noSide ?_ ?_⟩, met ?_ ?_,
    met ?_ ⟨?_, .left, ?_⟩, met ?_ ⟨?_, noSide ?_ ?_⟩⟩ <;> decide

/-- A part at a station and fine part, its sense and its inputs given. -/
def standingAt (st fine : Nat) (sense : Sense) (a : Bool) (valid : Bool := true) : State := { ready with
  station := { ready.station with station := st, fine := fine, sense := sense, phaseA := a, valid := valid } }

/-- The least f that carries and the greatest that does not, a borrow, both limits, and a pinned station; by
both inputs, forward and back. -/
theorem wit_EncoderCountsAndSpeedWindows :
    let ok (s : State) : Prop := s.heldReset = none ∧ StationOk s
    (ok (standingAt 5 9750 .ascending false) ∧ (10000 : Int) ≤ 9750 + 250) ∧
    (ok (standingAt 5 9749 .ascending false) ∧ ((9749 : Int) + 250 < 10000)) ∧
    (ok (standingAt 5 249 .descending false) ∧ (249 : Int) + -(250) < 0) ∧
    (ok (standingAt 0 249 .ascending true) ∧ (249 : Int) + -250 < 0) ∧
    (ok (standingAt 9999999 9750 .ascending false) ∧ (10000 : Int) ≤ 9750 + 250) ∧
    (ok (standingAt 9999999 0 .ascending false false) ∧ (standingAt 9999999 0 .ascending false).station.geometry.encoderDistance = 250) := by
  unfold StationOk
  decide

/-- Channel 8, address 0 and 64, timeout 0 and 41, a kind outside the list; a role in use, a kind the role does
not admit, an address in use, a free channel, and the same kind again; CLEAR CHANNEL in each of its cases. -/
theorem wit_ChannelsAreConfiguredAndCleared :
    Met (.configureChannel (con [8, 9, 4, 0, 6])) ready (fun _ p => ¬ fieldAt p 0 1 < 8) ∧
    Met (.configureChannel (con [7, 0, 4, 0, 6])) ready (fun _ p => ¬ 1 ≤ fieldAt p 1 1) ∧
    Met (.configureChannel (con [7, 64, 4, 0, 6])) ready (fun _ p => ¬ fieldAt p 1 1 ≤ 63) ∧
    Met (.configureChannel (con [7, 9, 4, 0, 41])) ready (fun _ p => ¬ fieldAt p 4 1 ≤ 40) ∧
    Met (.configureChannel (con [7, 9, 0, 0, 6])) ready (fun _ p => kindOf (fieldAt p 2 1) (fieldAt p 3 1) = none) ∧
    Met (.configureChannel (con [0, 9, 1, 1, 6])) cutting (fun t p => (0 : Fin 8).val = fieldAt p 0 1 ∧
      kindOf (fieldAt p 2 1) (fieldAt p 3 1) = some (.sonic .plus) ∧
      ∃ q, t.roleHeld 0 = some q ∧ t.roleInUse q = true) ∧
    Met (.configureChannel (con [3, 4, 3, 0, 6])) ready (fun t p => (3 : Fin 8).val = fieldAt p 0 1 ∧
      kindOf (fieldAt p 2 1) (fieldAt p 3 1) = some .slope ∧ (¬ ∃ q, t.roleHeld 3 = some q ∧ t.roleInUse q = true) ∧
      ∃ q, t.roleHeld 3 = some q ∧ q.admits .slope = false) ∧
    Met (.configureChannel (con [7, 1, 3, 0, 6])) ready (fun t p => (7 : Fin 8).val = fieldAt p 0 1 ∧
      kindOf (fieldAt p 2 1) (fieldAt p 3 1) = some .slope ∧ t.roleHeld 7 = none ∧
      ((t.channel 0).config.map ChannelConfig.address) = some (fieldAt p 1 1)) ∧
    Met (.configureChannel (con [5, 63, 2, 255, 40])) ready (fun t p => (5 : Fin 8).val = fieldAt p 0 1 ∧
      kindOf (fieldAt p 2 1) (fieldAt p 3 1) = some (.rope .minus) ∧ t.roleHeld 5 = none ∧
      (∀ k : Fin 8, k ≠ 5 → ((t.channel k).config.map ChannelConfig.address) ≠ some (fieldAt p 1 1)) ∧
      (t.channel 5).config.map ChannelConfig.kind = some (.rope .minus)) ∧
    Met (.clearChannel (con [8])) ready (fun _ p => 8 ≤ fieldAt p 0 1) ∧
    Met (.clearChannel (con [0])) cutting (fun t p => (0 : Fin 8).val = fieldAt p 0 1 ∧
      ∃ q, t.roleHeld 0 = some q ∧ t.roleInUse q = true) ∧
    Met (.clearChannel (con [7])) ready (fun t p => (7 : Fin 8).val = fieldAt p 0 1 ∧ t.roleHeld 7 = none ∧
      (t.channel 7).config = none) ∧
    Met (.clearChannel (con [4])) ready (fun t p => (4 : Fin 8).val = fieldAt p 0 1 ∧
      (¬ ∃ q, t.roleHeld 4 = some q ∧ t.roleInUse q = true) ∧ (t.channel 4).config ≠ none) := by
  refine ⟨met ?_ ?_, met ?_ ?_, met ?_ ?_, met ?_ ?_, met ?_ ?_, met ?_ ⟨?_, ?_, .leftGrade, ?_⟩,
    met ?_ ⟨?_, ?_, noRole ?_, .drumLoad, ?_⟩, met ?_ ?_, met ?_ ?_, met ?_ ?_, met ?_ ⟨?_, .leftGrade, ?_⟩,
    met ?_ ?_, met ?_ ⟨?_, noRole ?_, ?_⟩⟩ <;> decide

/-- `cutting` with a slope channel at 6. -/
def spareSlope (h : Health) : State := cutting.setChannel 6 { liveChannel 7 .slope 100 none with health := h }

/-- Roles 0 and 6, channels 8 and 254; an unconfigured channel, a kind not admitted, a channel held elsewhere;
the same channel; a role not in use; and each case of a role in use. -/
theorem wit_RolesAreAssigned :
    Met (.assignRole (con [0, 1])) ready (fun _ p => roleOf (fieldAt p 0 1) = none) ∧
    Met (.assignRole (con [6, 1])) ready (fun _ p => roleOf (fieldAt p 0 1) = none) ∧
    Met (.assignRole (con [1, 8])) ready (fun _ p => 8 ≤ fieldAt p 1 1 ∧ fieldAt p 1 1 ≠ 255) ∧
    Met (.assignRole (con [1, 254])) ready (fun _ p => 8 ≤ fieldAt p 1 1 ∧ fieldAt p 1 1 ≠ 255) ∧
    Met (.assignRole (con [1, 7])) ready (fun t p => roleOf (fieldAt p 0 1) = some .leftGrade ∧ fieldAt p 1 1 = 7 ∧
      (t.channel 7).config = none) ∧
    Met (.assignRole (con [2, 2])) ready (fun t p => roleOf (fieldAt p 0 1) = some .rightGrade ∧ fieldAt p 1 1 = 2 ∧
      (t.channel 2).config.map (fun g => Role.rightGrade.admits g.kind) = some false) ∧
    Met (.assignRole (con [2, 0])) ready (fun t p => roleOf (fieldAt p 0 1) = some .rightGrade ∧ fieldAt p 1 1 = 0 ∧
      t.roleHeld 0 = some .leftGrade) ∧
    Met (.assignRole (con [1, 0])) cutting (fun t p => roleOf (fieldAt p 0 1) = some .leftGrade ∧ fieldAt p 1 1 = 0 ∧
      t.monitor.roles.get .leftGrade = some 0) ∧
    Met (.assignRole (con [5, 255])) ready (fun t p => roleOf (fieldAt p 0 1) = some .beltPressure ∧
      fieldAt p 1 1 = 255 ∧ t.monitor.roles.get .beltPressure ≠ none ∧ t.roleInUse .beltPressure = false) ∧
    Met (.assignRole (con [4, 255])) (leftIs { resetSide with state := .referencing, referencing := some ⟨22, 7313⟩ })
      (fun t p => roleOf (fieldAt p 0 1) = some .drumLoad ∧ fieldAt p 1 1 = 255 ∧
        t.monitor.roles.get .drumLoad ≠ none ∧ t.roleInUse .drumLoad = true) ∧
    Met (.assignRole (con [3, 255])) cutting (fun t p => roleOf (fieldAt p 0 1) = some .crossSlope ∧
      fieldAt p 1 1 = 255 ∧ t.monitor.roles.get .crossSlope ≠ none ∧ t.roleInUse .crossSlope = true) ∧
    Met (.assignRole (con [3, 6])) (spareSlope .stale) (fun t p => roleOf (fieldAt p 0 1) = some .crossSlope ∧
      fieldAt p 1 1 = 6 ∧ t.roleHeld 6 = none ∧ t.roleInUse .crossSlope = true ∧ (t.channel 6).health ≠ .live ∧
      (t.channel 6).config.map (fun g => Role.crossSlope.admits g.kind) = some true) ∧
    Met (.assignRole (con [3, 6])) (spareSlope .live) (fun t p => roleOf (fieldAt p 0 1) = some .crossSlope ∧
      fieldAt p 1 1 = 6 ∧ t.roleHeld 6 = none ∧ t.roleInUse .crossSlope = true ∧ (t.channel 6).health = .live ∧
      t.monitor.roles.get .crossSlope ≠ some 6 ∧
      (t.channel 6).config.map (fun g => Role.crossSlope.admits g.kind) = some true) := by
  refine ⟨met ?_ ?_, met ?_ ?_, met ?_ ?_, met ?_ ?_, met ?_ ?_, met ?_ ?_, met ?_ ?_, met ?_ ?_, met ?_ ?_,
    met ?_ ?_, met ?_ ?_, met ?_ ?_, met ?_ ?_⟩ <;> decide

theorem wit_BumplessTransferKeepsTheDepth :
    Met (.assignRole (con [1, 5])) cutting (fun t p => fieldAt p 0 1 = 1 ∧ fieldAt p 1 1 = (5 : Fin 8).val ∧
      (t.side .left).state = .auto ∧ t.measuredDepth .left = some 1137 ∧
      t.monitor.roles.get (gradeRole .left) ≠ some 5 ∧ t.roleHeld 5 = none ∧
      (∃ g ∈ (t.channel 5).config, g.kind.isGrade = true) ∧ (t.channel 5).health = .live ∧
      (t.channel 5).value = some 4120) := by
  refine met ?_ ⟨?_, ?_, ?_, ?_, ?_, ?_, ⟨⟨6, .rope .minus, 6⟩, ?_, ?_⟩, ?_, ?_⟩ <;> decide

/-- Sides 0 and 3, a side in AUTO, depths of −501, 5001, −500 and 5000 (FE0Bh, 1389h, FE0Ch, 1388h), no grade
channel, and a grade channel that is STALE. -/
theorem wit_SetZeroReferencesTheChannel :
    Met (.setZero (con [0, 0, 0])) ready (fun _ p => fieldAt p 0 1 ≠ 1 ∧ fieldAt p 0 1 ≠ 2) ∧
    Met (.setZero (con [3, 0, 0])) ready (fun _ p => fieldAt p 0 1 ≠ 1 ∧ fieldAt p 0 1 ≠ 2) ∧
    Met (.setZero (con [1, 0, 0])) cutting (fun t p => fieldAt p 0 1 = 1 ∧ (t.side .left).state = .auto) ∧
    Met (.setZero (con [1, 0xFE, 0x0B])) ready (fun t p => (t.side .left).state = .idle ∧ signedAt p 1 2 < -500) ∧
    Met (.setZero (con [1, 0x13, 0x89])) ready (fun t p => (t.side .left).state = .idle ∧ 5000 < signedAt p 1 2) ∧
    Met (.setZero (con [2, 0, 0])) { ready with monitor.roles.rightGrade := none }
      (fun t p => fieldAt p 0 1 = 2 ∧ (t.side .right).state = .idle ∧ t.monitor.roles.get (gradeRole .right) = none) ∧
    Met (.setZero (con [1, 0, 0])) (ready.setChannel 0 { liveChannel 1 (.sonic .plus) 7313 none with health := .stale })
      (fun t p => fieldAt p 0 1 = 1 ∧ (t.side .left).state = .idle ∧ t.monitor.roles.get (gradeRole .left) = some 0 ∧
        (t.channel 0).health ≠ .live) ∧
    Met (.setZero (con [1, 0xFE, 0x0C])) ready (fun t p => (t.side .left).state = .idle ∧ signedAt p 1 2 = -500 ∧
      t.monitor.roles.get (gradeRole .left) = some 0 ∧ (t.channel 0).health = .live ∧ (t.channel 0).value = some 7313) ∧
    Met (.setZero (con [1, 0x13, 0x88])) ready (fun t p => (t.side .left).state = .idle ∧ signedAt p 1 2 = 5000 ∧
      t.monitor.roles.get (gradeRole .left) = some 0 ∧ (t.channel 0).health = .live) := by
  refine ⟨met ?_ ?_, met ?_ ?_, met ?_ ?_, met ?_ ?_, met ?_ ?_, met ?_ ?_, met ?_ ?_, met ?_ ?_, met ?_ ?_⟩ <;> decide

theorem distinctAddresses {s : State} (h : ∀ m n : Fin 8, (s.channel m).config ≠ none →
    (s.channel m).config.map ChannelConfig.address = (s.channel n).config.map ChannelConfig.address → m = n) :
    s.addressesDistinct := by
  intro m n a ha b hb hab
  refine h m n ?_ ?_
  · rw [Option.mem_def.mp ha]; simp
  · rw [Option.mem_def.mp ha, Option.mem_def.mp hb, Option.map_some, Option.map_some, hab]

/-- A reading frame of the address `a`. -/
def readingOf (a : Nat) (data : List Byte) : CanFrame := ⟨false, false, false, 0x500 + a, data⟩

/-- Frames that are no reading (CAN FD, two bytes, address 0 and 64) or of no channel (63); a reading of 20,000
that is accepted, one of 20,001 and one with status 2 that are rejected, a drum idle at status 1; and a timer
that runs and one that does not. -/
theorem wit_ReadingsAndExpiriesSetHealth :
    let plain (f : CanFrame) : Prop := f.extended = false ∧ f.remote = false ∧ f.fd = false ∧ 3 ≤ f.data.length ∧
      0x501 ≤ f.ident ∧ f.ident ≤ 0x53F
    let of (f : CanFrame) (n : Fin 8) : Prop := plain f ∧
      (ready.channel n).config.map ChannelConfig.address = some (f.ident - 0x500)
    ready.heldReset = none ∧ ready.addressesDistinct ∧
    ¬ plain ⟨false, false, true, 0x501, [0, 0, 0]⟩ ∧ ¬ plain (readingOf 1 [0, 0]) ∧
    ¬ plain (readingOf 0 [0, 0, 0]) ∧ ¬ plain (readingOf 64 [0, 0, 0]) ∧
    (∀ n : Fin 8, (ready.channel n).config.map ChannelConfig.address ≠ some 63) ∧
    (of (readingOf 1 [0x4E, 0x20, 0]) 0 ∧ (Kind.sonic .plus).inRange (signedAt [0x4E, 0x20, 0] 0 2) = true) ∧
    (of (readingOf 1 [0x4E, 0x21, 0]) 0 ∧ (Kind.sonic .plus).inRange (signedAt [0x4E, 0x21, 0] 0 2) = false) ∧
    of (readingOf 3 [0, 100, 2]) 2 ∧ of (readingOf 4 [0, 120, 1]) 3 ∧
    (ready.channel 0).timer ≠ none ∧ (ready.channel 7).timer = none := by
  exact ⟨by decide, distinctAddresses (by decide), by decide⟩

/-- `s` with channel 0 REJECTED, with the load channel disengaged; and LEFT referencing. -/
def lostGrade (s : State) : State := s.setChannel 0 { liveChannel 1 (.sonic .plus) 7313 (some 8450) with
  health := .rejected, status := some 7 }
def idleDrum (s : State) : State := s.setChannel 3 { liveChannel 4 .load 22 none with engaged := false, status := some 1 }
def touching : State := leftIs { resetSide with state := .referencing, demand := 30, referencing := some ⟨22, 7313⟩ }

/-- A configured channel's law as one test. -/
def fits (c : Channel) (g : ChannelConfig) : Bool :=
  decide ((1 ≤ g.address ∧ g.address ≤ 63 ∧ 1 ≤ g.timeout ∧ g.timeout ≤ 40) ∧
    (c.zero.isSome = true → g.kind.isGrade = true) ∧ (∀ v ∈ c.value, g.kind.inRange v = true) ∧
    (c.health = .live → c.value.isSome = true) ∧ (c.health = .absent ↔ c.status = none) ∧
    (c.timer.isSome = true ↔ c.health = .live ∨ c.health = .rejected) ∧
    (∀ t ∈ c.timer, t ≤ g.timeout * 50) ∧ (c.engaged = true → g.kind = .load))

theorem channelsInLaw {s : State}
    (h1 : ∀ n : Fin 8, s.channel n = emptyChannel ∨ (s.channel n).config.map (fits (s.channel n)) = some true)
    (h2 : ∀ m n : Fin 8, (s.channel m).config ≠ none →
      (s.channel m).config.map ChannelConfig.address = (s.channel n).config.map ChannelConfig.address → m = n)
    (h3 : ∀ r ∈ allRoles, s.monitor.roles.get r = none ∨
      ((s.monitor.roles.get r).bind (fun n => (s.channel n).config)).map (fun g => r.admits g.kind) = some true)
    (h4 : ∀ q ∈ allRoles, ∀ r ∈ allRoles, (s.monitor.roles.get q).isSome = true →
      s.monitor.roles.get q = s.monitor.roles.get r → q = r) : ChannelsOk s := by
  refine ⟨fun n => ?_, distinctAddresses h2, fun r hr n hn => ?_, h4⟩
  · unfold Channel.ok
    rcases h1 n with h | h
    · rw [h]; rfl
    · cases hc : (s.channel n).config with
      | none => simp [hc] at h
      | some g =>
        simp only [hc, Option.map_some, Option.some.injEq, fits, decide_eq_true_eq] at h
        obtain ⟨⟨a, b, c, d⟩, e⟩ := h
        exact ⟨a, b, c, d, e⟩
  · have hn := Option.mem_def.mp hn
    rcases h3 r hr with h | h
    · rw [h] at hn; cases hn
    · rw [hn, Option.bind_some] at h
      cases hc : (s.channel n).config with
      | none => simp [hc] at h
      | some g => exact ⟨g, by simp, by simpa [hc] using h⟩

/-- A grade channel lost in AUTO, a cross-slope channel lost to a side in SLOPE mode, a grade channel lost and a
drum idle in REFERENCING, and nothing lost. -/
theorem wit_HandOversFreezeAndFail :
    let lost (s t : State) (n : Fin 8) : Prop := (s.channel n).health = .live ∧ (t.channel n).health ≠ .live
    (¬ lost cutting cutting 0 ∧ cutting.monitor.roles.get .crossSlope ≠ some 0 ∧
      cutting.monitor.roles.get (gradeRole .right) ≠ some 0) ∧
    (ChannelsOk (lostGrade cutting) ∧ (cutting.side .left).state = .auto ∧ lost cutting (lostGrade cutting) 0 ∧
      cutting.monitor.roles.get (gradeRole .left) = some 0) ∧
    (let t := cutting.setChannel 2 { liveChannel 3 .slope 212 none with health := .stale, timer := none }
    ChannelsOk t ∧ lost cutting t 2 ∧ (t.side .right).state = .auto ∧ (t.side .right).mode = .slope ∧
      t.monitor.roles.get .crossSlope = some 2) ∧
    (ChannelsOk (lostGrade touching) ∧ lost touching (lostGrade touching) 0 ∧
      (touching.side .left).state = .referencing) ∧
    (ChannelsOk (idleDrum touching) ∧ (touching.channel 3).engaged = true ∧
      ((idleDrum touching).channel 3).engaged = false ∧ touching.monitor.roles.get .drumLoad = some 3) ∧
    (ChannelsOk cutting ∧ ¬ lost cutting cutting 0) := by
  refine ⟨?_, ⟨channelsInLaw ?_ ?_ ?_ ?_, ?_⟩, ⟨channelsInLaw ?_ ?_ ?_ ?_, ?_⟩, ⟨channelsInLaw ?_ ?_ ?_ ?_, ?_⟩,
    ⟨channelsInLaw ?_ ?_ ?_ ?_, ?_⟩, channelsInLaw ?_ ?_ ?_ ?_, ?_⟩ <;> decide

/-- The figures of section 4.3 for channels 2 and 5, brought within range once; a REJECTED channel, one without a zero
reference, and a role that is not assigned; and the requests. -/
theorem wit_MachineReadsReportTheRecords :
    ((liveChannel 1 (.sonic .plus) 7313 (some 8450)).depth = some 1137 ∧
      (liveChannel 1 (.sonic .plus) 2100 (some 8450)).depth = some 5000 ∧
      (liveChannel 2 (.rope .minus) 4120 (some 2983)).depth = some 1137) ∧
    (({ liveChannel 1 (.sonic .plus) 7313 (some 8450) with health := .rejected } : Channel).health ≠ .live ∧
      (liveChannel 6 (.rope .minus) 4120 none).zero = none ∧ (liveChannel 4 .load 22 none).health = .live) ∧
    ({ ready with monitor.roles.crossSlope := none } : State).monitor.roles.get .crossSlope = none ∧
    Met (.readGeometry (con [])) ready (fun _ _ => True) ∧ Met (.readStation (con [])) ready (fun _ _ => True) ∧
    Met (.readChannel (con [8])) ready (fun _ p => 8 ≤ fieldAt p 0 1) ∧
    Met (.readChannel (con [7])) ready (fun _ p => (7 : Fin 8).val = fieldAt p 0 1) ∧
    Met (.readRoles (con [])) ready (fun _ _ => True) ∧
    Met (.readBank (con [0])) ready (fun _ p => fieldAt p 0 1 ≠ 1 ∧ fieldAt p 0 1 ≠ 2) ∧
    Met (.readBank (con [3])) ready (fun _ p => fieldAt p 0 1 ≠ 1 ∧ fieldAt p 0 1 ≠ 2) ∧
    Met (.readBank (con [2])) ready (fun _ p => fieldAt p 0 1 = 2) := by
  refine ⟨?_, ?_, ?_, met ?_ ?_, met ?_ ?_, met ?_ ?_, met ?_ ?_, met ?_ ?_, met ?_ ?_, met ?_ ?_, met ?_ ?_⟩ <;> decide

/-- RIGHT in SLOPE mode with the cross-slope channel STALE. -/
def slopeLost : State := { ready.setChannel 2 { liveChannel 3 .slope 212 none with health := .stale, timer := none } with
  right := { resetSide with mode := .slope } }

/-- Sides 0 and 3, REFERENCING, AUTO, no zero reference, a grade and a cross-slope channel not LIVE, and an ENGAGE
taken with a zone governing and with none. -/
theorem wit_EngageEntersAuto :
    Met (.engage (con [0])) ready (fun _ p => fieldAt p 0 1 ≠ 1 ∧ fieldAt p 0 1 ≠ 2) ∧
    Met (.engage (con [3])) ready (fun _ p => fieldAt p 0 1 ≠ 1 ∧ fieldAt p 0 1 ≠ 2) ∧
    Met (.engage (con [1])) touching (fun t p => fieldAt p 0 1 = 1 ∧ (t.side .left).state = .referencing) ∧
    Met (.engage (con [2])) cutting (fun t p => fieldAt p 0 1 = 2 ∧ (t.side .right).state = .auto) ∧
    Met (.engage (con [1])) (ready.setChannel 0 (liveChannel 1 (.sonic .plus) 7313 none))
      (fun t _ => (t.side .left).state = .idle ∧ t.isReferenced .left = false) ∧
    Met (.engage (con [1])) (lostGrade ready)
      (fun t _ => (t.side .left).state = .idle ∧ t.isReferenced .left = true ∧ ¬ t.holdsLive (gradeRole .left)) ∧
    Met (.engage (con [2])) slopeLost
      (fun t _ => (t.side .right).state = .idle ∧ t.isReferenced .right = true ∧ t.holdsLive (gradeRole .right) ∧
        (t.side .right).mode = .slope ∧ ¬ t.holdsLive .crossSlope) ∧
    Met (.engage (con [1])) planned (fun t _ => (t.side .left).state = .idle ∧ t.isReferenced .left = true ∧
      t.holdsLive (gradeRole .left) ∧ (t.side .left).mode = .grade ∧ t.measuredDepth .left = some 1137 ∧
      t.station.valid = true ∧ t.governingZone ≠ none) ∧
    Met (.engage (from' .rightPanel [2])) { ready with right.mode := .slope } (fun t _ => (t.side .right).state = .idle ∧
      t.isReferenced .right = true ∧ t.holdsLive (gradeRole .right) ∧ t.holdsLive .crossSlope ∧
      t.measuredDepth .right = some 1137 ∧ t.governingZone = none) := by
  refine ⟨met ?_ ?_, met ?_ ?_, met ?_ ?_, met ?_ ?_, met ?_ ?_, met ?_ ?_, met ?_ ?_, met ?_ ?_, met ?_ ?_⟩ <;>
    (try unfold State.holdsLive) <;> decide

theorem wit_OnlyEngageEntersAuto :
    let i : Instr := .engage (con [1])
    exec i (put i ready) = .next (served i ready) ∧ ((put i ready).side .left).state ≠ .auto ∧
      ((served i ready).side .left).state = .auto := ⟨rfl, by decide, by decide⟩

/-- A panel's request taken on its own side, and one for the other side refused. -/
theorem wit_PanelsReachTheirOwnSideOnly :
    (∃ row r, requestRow (.jog (from' .leftPanel [1, 1])) = some (row, r) ∧ r.requester = .leftPanel ∧
      exec (.jog (from' .leftPanel [1, 1])) (put (.jog (from' .leftPanel [1, 1])) cutting) =
        .next (served (.jog (from' .leftPanel [1, 1])) cutting)) ∧
    ∃ row r, requestRow (.disengage (from' .rightPanel [1])) = some (row, r) ∧ r.requester = .rightPanel ∧
      exec (.disengage (from' .rightPanel [1])) (put (.disengage (from' .rightPanel [1])) cutting) =
        .next (served (.disengage (from' .rightPanel [1])) cutting) :=
  ⟨⟨_, _, rfl, rfl, rfl⟩, _, _, rfl, rfl, rfl⟩

/-- `cutting` with the drum inside mark 1 on both sides and inside mark 2 on the right, both announced. -/
def amongMarks : State := { cutting with plan.marks := [{ mark1 with memory := ⟨true, true, true⟩ }, mark3,
  { mark2 with posRight := .approach, memory := ⟨false, true, true⟩ }] }

/-- When RIGHT leaves AUTO, mark 1 stays inside and announced on the left, mark 2 stands re-armed in its position. -/
theorem test_leaving_auto_marks :
    let left : List Mark := [{ mark1 with memory := ⟨true, false, true⟩ }, mark3, { mark2 with posRight := .approach }]
    (served (.disengage (con [2])) amongMarks).plan.marks = left ∧
    (served (.jog (con [2, 1])) amongMarks).plan.marks = left ∧
    (ran (.freshnessExpiry 2) amongMarks).plan.marks = left := by decide

theorem wit_DisengageStopsTheSide :
    Met (.disengage (con [2])) amongMarks (fun t p => fieldAt p 0 1 = 2 ∧ t.sideOk .right ∧
      (t.side .right).state = .auto) ∧
    Met (.disengage (con [0])) ready (fun _ p => fieldAt p 0 1 ≠ 1 ∧ fieldAt p 0 1 ≠ 2) ∧
    Met (.disengage (con [3])) ready (fun _ p => fieldAt p 0 1 ≠ 1 ∧ fieldAt p 0 1 ≠ 2) ∧
    Met (.disengage (con [1])) ready (fun t p => fieldAt p 0 1 = 1 ∧ t.sideOk .left ∧ (t.side .left).state = .idle) ∧
    Met (.disengage (con [2])) cutting (fun t p => fieldAt p 0 1 = 2 ∧ t.sideOk .right ∧
      (t.side .right).state = .auto) ∧
    Met (.disengage (from' .leftPanel [1])) touching (fun t p => fieldAt p 0 1 = 1 ∧ t.sideOk .left ∧
      (t.side .left).state = .referencing) := by
  refine ⟨met ?_ ?_, met ?_ ?_, met ?_ ?_, met ?_ ?_, met ?_ ?_, met ?_ ?_⟩ <;>
    (try unfold State.sideOk State.holdsLive) <;> decide

theorem wit_JogGrantsALease :
    Met (.jog (con [0, 1])) ready (fun _ p => fieldAt p 0 1 ≠ 1 ∧ fieldAt p 0 1 ≠ 2) ∧
    Met (.jog (con [1, 0])) ready (fun _ p => fieldAt p 1 1 ≠ 1 ∧ fieldAt p 1 1 ≠ 2) ∧
    Met (.jog (con [2, 3])) ready (fun _ p => fieldAt p 1 1 ≠ 1 ∧ fieldAt p 1 1 ≠ 2) ∧
    Met (.jog (con [1, 1])) touching (fun t p => fieldAt p 0 1 = 1 ∧ fieldAt p 1 1 = 1 ∧ t.sideOk .left) ∧
    Met (.jog (from' .rightPanel [2, 2])) cutting (fun t p => fieldAt p 0 1 = 2 ∧ fieldAt p 1 1 = 2 ∧ t.sideOk .right) ∧
    (ready.heldReset = none ∧ (ready.side .left).lease = none) ∧
    ((served (.jog (con [1, 1])) ready).heldReset = none ∧ ((served (.jog (con [1, 1])) ready).side .left).lease ≠ none) := by
  refine ⟨met ?_ ?_, met ?_ ?_, met ?_ ?_, met ?_ ?_, met ?_ ?_, ?_, ?_⟩ <;>
    (try unfold State.sideOk State.holdsLive) <;> decide

/-- The tests of REFERENCE in their order, and a taken one. -/
theorem wit_ReferenceCapturesTheIdleLoad :
    let free (t : State) : Prop := (t.side .left).state = .idle ∨ (t.side .left).state = .manual
    let graded (t : State) : Prop := t.monitor.roles.get (gradeRole .left) = some 0 ∧ (t.channel 0).health = .live
    Met (.reference (con [0])) ready (fun _ p => fieldAt p 0 1 ≠ 1 ∧ fieldAt p 0 1 ≠ 2) ∧
    Met (.reference (con [3])) ready (fun _ p => fieldAt p 0 1 ≠ 1 ∧ fieldAt p 0 1 ≠ 2) ∧
    Met (.reference (con [1])) cutting (fun t p => fieldAt p 0 1 = 1 ∧ ¬ free t) ∧
    Met (.reference (con [1])) { ready with monitor.roles.leftGrade := none } (fun t _ => free t ∧
      t.monitor.roles.get (gradeRole .left) = none) ∧
    Met (.reference (con [1])) (lostGrade ready) (fun t _ => free t ∧
      t.monitor.roles.get (gradeRole .left) = some 0 ∧ (t.channel 0).health ≠ .live) ∧
    Met (.reference (con [1])) { ready with monitor.roles.drumLoad := none } (fun t _ => free t ∧ graded t ∧
      t.monitor.roles.get .drumLoad = none) ∧
    Met (.reference (con [1])) (idleDrum ready) (fun t _ => free t ∧ graded t ∧
      t.monitor.roles.get .drumLoad = some 3 ∧ ¬((t.channel 3).health = .live ∧ (t.channel 3).engaged = true)) ∧
    Met (.reference (con [1])) ready (fun t p => fieldAt p 0 1 = 1 ∧ free t ∧ graded t ∧
      t.monitor.roles.get .drumLoad = some 3 ∧ (t.channel 3).health = .live ∧ (t.channel 3).engaged = true ∧
      (t.channel 3).value = some 22 ∧ (t.channel 0).value = some 7313) := by
  refine ⟨met ?_ ?_, met ?_ ?_, met ?_ ?_, met ?_ ?_, met ?_ ?_, met ?_ ?_, met ?_ ?_, met ?_ ?_⟩ <;> decide

/-- The tests of SET SIDE MODE in their order; trims of −201 (FF37h), −200, 200 (00C8h) and 201. -/
theorem wit_ModeAndTrimAreSet :
    Met (.setSideMode (con [3, 1])) ready (fun _ p => fieldAt p 0 1 ≠ 1 ∧ fieldAt p 0 1 ≠ 2) ∧
    Met (.setSideMode (con [1, 0])) ready (fun _ p => fieldAt p 1 1 ≠ 1 ∧ fieldAt p 1 1 ≠ 2) ∧
    Met (.setSideMode (con [1, 2])) cutting (fun t _ => (t.side .left).state = .auto) ∧
    Met (.setSideMode (con [1, 1])) ready (fun t _ => (t.side .left).state = .idle ∧ (t.side .left).mode = .grade) ∧
    Met (.setSideMode (con [1, 2])) { ready with right.mode := .slope } (fun t _ => (t.side .left).state = .idle ∧
      (t.side .left).mode ≠ .slope ∧ (t.side (otherSide .left)).mode = .slope) ∧
    Met (.setSideMode (con [1, 2])) { ready with monitor.roles.crossSlope := none } (fun t _ =>
      (t.side .left).state = .idle ∧ (t.side .left).mode ≠ .slope ∧ (t.side .right).mode ≠ .slope ∧
      t.monitor.roles.get .crossSlope = none) ∧
    Met (.setSideMode (con [2, 2])) ready (fun t p => fieldAt p 0 1 = 2 ∧ fieldAt p 1 1 = 2 ∧
      (t.side .right).state = .idle ∧ (t.side .right).mode ≠ .slope ∧ (t.side .left).mode ≠ .slope ∧
      t.monitor.roles.get .crossSlope ≠ none) ∧
    Met (.setTrim (con [0, 0, 0])) ready (fun _ p => fieldAt p 0 1 ≠ 1 ∧ fieldAt p 0 1 ≠ 2) ∧
    Met (.setTrim (con [1, 0xFF, 0x37])) ready (fun _ p => signedAt p 1 2 < -200) ∧
    Met (.setTrim (con [1, 0xFF, 0x38])) ready (fun _ p => signedAt p 1 2 = -200) ∧
    Met (.setTrim (con [2, 0, 0xC8])) ready (fun _ p => signedAt p 1 2 = 200) ∧
    Met (.setTrim (con [2, 0, 0xC9])) ready (fun _ p => 200 < signedAt p 1 2) := by
  refine ⟨met ?_ ?_, met ?_ ?_, met ?_ ?_, met ?_ ?_, met ?_ ?_, met ?_ ?_, met ?_ ?_, met ?_ ?_, met ?_ ?_,
    met ?_ ?_, met ?_ ?_, met ?_ ?_⟩ <;> decide

/-- LEFT referencing from the load and reading given. -/
def referencingFrom (load reading : Int) : State :=
  leftIs { resetSide with state := .referencing, demand := 30, referencing := some ⟨load, reading⟩ }

/-- IDLE, FROZEN, MANUAL without and with a lease; a load exactly the touch rise above the idle one, a travel of
exactly the limit, and one below both. -/
theorem wit_SideIntervalsOutOfAuto :
    let g := ready.station.geometry
    let caught (t : State) (load start : Int) : Prop := t.heldReset = none ∧ (t.side .left).state = .referencing ∧
      (t.side .left).referencing = some ⟨load, start⟩ ∧ t.monitor.roles.get (gradeRole .left) = some 0 ∧
      t.monitor.roles.get .drumLoad = some 3 ∧ (t.channel 3).value = some 22 ∧ (t.channel 0).value = some 7313
    ready.heldReset = none ∧ (ready.side .left).state = .idle ∧
    ((leftIs { resetSide with state := .frozen }).side .left).state = .frozen ∧
    ((leftIs { resetSide with state := .manual }).side .left).lease = none ∧
    ((served (.jog (con [1, 1])) ready).heldReset = none ∧ ((served (.jog (con [1, 1])) ready).side .left).state = .manual ∧
      ((served (.jog (con [1, 1])) ready).side .left).lease = some ⟨.raise, 250⟩) ∧
    (caught (referencingFrom 14 7313) 14 7313 ∧ (14 : Int) + g.touchDelta = 22) ∧
    (caught (referencingFrom 22 8813) 22 8813 ∧ g.referenceTravel = ((7313 : Int) - 8813).natAbs ∧
      ¬ (22 : Int) + g.touchDelta ≤ 22) ∧
    (caught (referencingFrom 15 8812) 15 8812 ∧ ¬ (15 : Int) + g.touchDelta ≤ 22 ∧
      ¬ g.referenceTravel ≤ ((7313 : Int) - 8812).natAbs) := by decide

/-- RIGHT in AUTO on slope, cutting 1150 with the valve box ahead (section 3.6): an override begins. -/
def nearing : State := { ready.setChannel 1 (liveChannel 2 (.rope .minus) 4133 (some 2983)) with
  plan := ⟨[], [mark2], none⟩, right := { autoSide .slope 1150 with context.source := .hold }
  station := { ready.station with station := 9936 } }

theorem wit_SideIntervalsInAuto :
    let ok (s : State) (x : Side) (m : Int) : Prop := s.heldReset = none ∧ (s.side x).state = .auto ∧
      s.measuredDepth x = some m ∧ (s.side x).settle ≠ .abandoned
    ok cutting .left 1137 ∧ ok cutting .right 1137 ∧ ok nearing .right 1150 ∧
      ((ran (.sideIntervalExpiry .left) cutting).left.context.basis = .depth) ∧
      ((ran (.sideIntervalExpiry .right) cutting).right.context.basis = .slope ∧ cutting.crossSlope = some 212) ∧
      (nearing.right.context.override = none ∧ (ran (.sideIntervalExpiry .right) nearing).right.context.override ≠ none) ∧
      ok (leftIs { holding 0 with settle := .settling 0 20 }) .left 1137 := by decide

/-- The speeds at each skip speed of SOFT and just below it; a dwell of 20 and of 21, and a side not in AUTO. -/
theorem wit_SettleStepsAreJudgedInOrder :
    let b := defaultSoft;
    (0 < b.t0 ∧ (99 : Int) < b.v0) ∧ (¬ (100 : Int) < b.v0 ∧ 0 < b.t1 ∧ (199 : Int) < b.v1) ∧
    (¬ (200 : Int) < b.v1 ∧ 0 < b.t2 ∧ (599 : Int) < b.v2) ∧ ¬ (600 : Int) < b.v2 ∧
    (let s := leftIs { holding 0 with settle := .settling 1 20 };
      s.heldReset = none ∧ (s.side .left).state = .auto ∧ (s.side .left).settle = .settling 1 20) ∧
    ((leftIs { holding 0 with settle := .settling 1 21 }).side .left).settle = .settling 1 21 ∧
    (ready.side .left).state ≠ .auto := by decide

/-- A ramp under PLAN, a zone without one, a HOLD, and a station that is INVALID; then a side in SLOPE mode under PLAN
(12,600 is 600 cm past the capture, so P is the zone's 1400) and under HOLD. -/
theorem wit_GradeTargetsFollowThePlan :
    let ok (s : State) : Prop := s.heldReset = none ∧ (s.side .left).state = .auto ∧ (s.side .left).mode = .grade
    let e : Instr := .sideIntervalExpiry .left
    (exec e cutting = .next (ran e cutting) ∧ ok cutting ∧ cutting.left.context.source = .plan ∧
      cutting.governingZone = some zone1 ∧ 0 < zone1.fields.ramp ∧ cutting.station.valid = true) ∧
    (let s := { cutting with plan.governing := some 2 }
    exec e s = .next (ran e s) ∧ ok s ∧ s.left.context.source = .plan ∧ s.governingZone = some zone2 ∧
      zone2.fields.ramp = 0) ∧
    (let s := { leftIs (holding 0) with station.valid := false }
    exec e s = .next (ran e s) ∧ ok s ∧ s.left.context.source = .hold ∧ s.station.valid = false) ∧
    (let e : Instr := .sideIntervalExpiry .right
    let s := { cutting with right.context.entryDepth := 1000 }
    exec e s = .next (ran e s) ∧ s.heldReset = none ∧ s.right.state = .auto ∧ s.right.mode = .slope ∧
      s.right.context.source = .plan ∧ s.governingZone = some zone1 ∧ (ran e s).right.context.planDepth = 1400) ∧
    (let e : Instr := .sideIntervalExpiry .right
    exec e nearing = .next (ran e nearing) ∧ nearing.heldReset = none ∧ nearing.right.state = .auto ∧
      nearing.right.mode = .slope ∧ nearing.right.context.source = .hold) :=
  ⟨⟨rfl, by decide⟩, ⟨rfl, by decide⟩, ⟨rfl, by decide⟩, ⟨rfl, by decide⟩, rfl, by decide⟩

/-- RIGHT under the override of the valve box (D_cap 1150) at a station. -/
def overridden (st : Nat) : State := { nearing with
  right.context.override := some 1150, station.station := st }

/-- The valve box of section 3.6: at 9,935 none begins, at 9,936 one does, at 10,183 it goes on, at 10,184 it ends, and it
ends where the station is INVALID. -/
theorem wit_SlopeOverridesBeginAndEnd :
    let ok (s : State) (m : Int) : Prop := s.heldReset = none ∧ (s.side .right).state = .auto ∧
      (s.side .right).mode = .slope ∧ s.measuredDepth .right = some m
    let e : Instr := .sideIntervalExpiry .right
    let near (s : State) (k : Mark) : Prop := s.station.valid = true ∧ k.fields.covers .right = true ∧
      (s.withinExtent 1150 k.fields ∨ (s.figures 1150 k.fields).env < 1150)
    (exec e nearing = .next (ran e nearing) ∧ ok nearing 1150 ∧ nearing.right.context.override = none ∧
      near nearing mark2 ∧ (ran e nearing).right.context.depthTarget = 1140) ∧
    (let s := { nearing with station.station := 9935 }
    exec e s = .next (ran e s) ∧ ok s 1150 ∧ s.right.context.override = none ∧ s.plan.marks = [mark2] ∧ ¬ near s mark2) ∧
    (let s := overridden 10183
    exec e s = .next (ran e s) ∧ ok s 1150 ∧ near s mark2 ∧ (ran e s).right.context.depthTarget = 1140) ∧
    (let s := overridden 10184
    exec e s = .next (ran e s) ∧ ok s 1150 ∧ s.right.context.override = some 1150 ∧ s.plan.marks = [mark2] ∧ ¬ near s mark2) ∧
    (let s := { overridden 10183 with station.valid := false }
    exec e s = .next (ran e s) ∧ ok s 1150 ∧ s.right.context.override = some 1150 ∧ s.station.valid = false) := by
  unfold State.withinExtent
  exact ⟨⟨rfl, by decide⟩, ⟨rfl, by decide⟩, ⟨rfl, by decide⟩, ⟨rfl, by decide⟩, rfl, by decide⟩

/-- LEFT holding 1200 near mark 1, at a station (section 3.5, the manhole). -/
def atManhole (st : Nat) : State := { leftIs (holding 0) with
  plan := ⟨[], [mark1], none⟩, station.station := st }

/-- Section 3.5: at 9,815 mark 1 is CLEAR and at 9,816 APPROACH; at 9,964 APPROACH and at 9,965 PROTECTED; at 10,114
PROTECTED and at 10,115 APPROACH; RIGHT under an override and before one; and a mark that does not cover LEFT. -/
theorem wit_TargetsStayUnderTheEnvelope :
    let e : Instr := .sideIntervalExpiry .left
    let ok (s : State) (k : Mark) : Prop := s.heldReset = none ∧ (s.side .left).state = .auto ∧ k ∈ s.plan.marks ∧
      s.station.valid = true ∧ k.fields.covers .left = true
    let m := mark1.fields
    (∀ st ∈ [9815, 9816, 9964, 9965, 10114, 10115], ok (atManhole st) mark1 ∧
      (atManhole st).refersTo .left (ran e (atManhole st)).left.context.planDepth 1200) ∧
    (¬ (atManhole 9815).withinExtent 1200 m ∧ 1200 ≤ ((atManhole 9815).figures 1200 m).env) ∧
    (¬ (atManhole 9816).withinExtent 1200 m ∧ ((atManhole 9816).figures 1200 m).env = 1192) ∧
    (¬ (atManhole 9964).withinExtent 1200 m ∧ (atManhole 9965).withinExtent 1200 m) ∧
    ((atManhole 10114).withinExtent 1200 m ∧ ¬ (atManhole 10115).withinExtent 1200 m) ∧
    ((nearing.side .right).state = .auto ∧ mark2 ∈ nearing.plan.marks ∧ nearing.refersTo .right 0 1150) ∧
    ((overridden 10183).side .right).state = .auto ∧ (overridden 10183).refersTo .right 0 1150 ∧
    (cutting.left.state = .auto ∧ mark2 ∈ cutting.plan.marks ∧ mark2.fields.covers .left = false) := by
  refine ⟨?_, ?_, ?_, ?_, ?_, ⟨by decide, by decide, 1150, by decide, by decide⟩, by decide, rfl, by decide⟩
  · intro st h
    simp only [List.mem_cons, List.not_mem_nil, or_false] at h
    obtain rfl | rfl | rfl | rfl | rfl | rfl := h <;> exact ⟨by decide, rfl⟩
  all_goals (unfold State.withinExtent; decide)

/-- Section 3.7: the region of mark 2 at D_ref 1150 begins 71 + 300 cm before its extent's 10,006, at 9,635, and ends at
10,113; ascending at 9,634 the drum is not inside; descending it lies 371 cm past the extent, up to 10,484. -/
theorem wit_OffersAndAnnouncements :
    let at' (st : Nat) (v : Sense) : State := { nearing with station.station := st, station.sense := v }
    let m := mark2.fields
    (nearing.heldReset = none ∧ (nearing.side .right).state = .auto ∧ mark2.memory.announced = false ∧
      m.covers .right = true ∧ nearing.station.valid = true ∧ nearing.plan.marks = [mark2]) ∧
    ((at' 9635 .ascending).refersTo .right 0 1150 ∧ (at' 10006 .descending).refersTo .right 0 1150) ∧
    ((at' 9635 .ascending).withinLookahead 1150 m ∧ ¬ (at' 9634 .ascending).withinLookahead 1150 m) ∧
    ((at' 10113 .ascending).withinLookahead 1150 m ∧ ¬ (at' 10114 .ascending).withinLookahead 1150 m) ∧
    ((at' 10006 .descending).withinLookahead 1150 m ∧ ¬ (at' 10005 .descending).withinLookahead 1150 m) ∧
    ((at' 10484 .descending).withinLookahead 1150 m ∧ ¬ (at' 10485 .descending).withinLookahead 1150 m) := by
  refine ⟨by decide, ⟨⟨1150, by decide, by decide⟩, 1150, by decide, by decide⟩, ?_, ?_, ?_, ?_⟩ <;>
    unfold State.withinLookahead <;> decide

theorem wit_LoopReadsReportTheState :
    Met (.readSide (con [0])) ready (fun _ p => fieldAt p 0 1 ≠ 1 ∧ fieldAt p 0 1 ≠ 2) ∧
    Met (.readSide (con [3])) ready (fun _ p => fieldAt p 0 1 ≠ 1 ∧ fieldAt p 0 1 ≠ 2) ∧
    Met (.readSide (from' .leftPanel [2])) cutting (fun _ p => fieldAt p 0 1 = 2) ∧
    Met (.readGovernor (con [])) ready (fun _ _ => True) ∧ Met (.readConveyor (con [])) ready (fun _ _ => True) ∧
    Met (.readNotices (con [])) ready (fun _ _ => True) := by
  refine ⟨met ?_ ?_, met ?_ ?_, met ?_ ?_, met ?_ trivial, met ?_ trivial, met ?_ trivial⟩ <;> decide

/-! ### Banks, governor, conveyor -/

/-- Banks 0 and 3, a gain of 0, and a bank within its ranges written to the active and to the other name. -/
theorem wit_WriteBankReplacesTheBank :
    Met (.writeBank (con (0 :: bankBytes defaultSoft))) ready (fun _ p => fieldAt p 0 1 ≠ 1 ∧ fieldAt p 0 1 ≠ 2) ∧
    Met (.writeBank (con (3 :: bankBytes defaultSoft))) ready (fun _ p => fieldAt p 0 1 ≠ 1 ∧ fieldAt p 0 1 ≠ 2) ∧
    Met (.writeBank (con (1 :: bankBytes { defaultSoft with k0 := 0 }))) ready
      (fun _ p => (bankOfBytes (p.drop 1)).inRange = false) ∧
    Met (.writeBank (con (1 :: bankBytes { defaultSoft with k0 := 1 }))) ready (fun t p => fieldAt p 0 1 = 1 ∧
      (bankOfBytes (p.drop 1)).inRange = true ∧ t.banks.active = .soft) ∧
    Met (.writeBank (con (2 :: bankBytes defaultHard))) ready (fun t p => fieldAt p 0 1 = 2 ∧
      (bankOfBytes (p.drop 1)).inRange = true ∧ t.banks.active ≠ .hard) := by
  refine ⟨met ?_ ?_, met ?_ ?_, met ?_ ?_, met ?_ ?_, met ?_ ?_⟩ <;> decide

/-- Caps of −1, 0, 600 (0258h) and 601. -/
theorem wit_AdvanceCapsAreClamped :
    Met (.setAdvanceCap (con [0xFF, 0xFF])) ready (fun _ p => signedAt p 0 2 < 0) ∧
    Met (.setAdvanceCap (con [0, 0])) ready (fun _ p => signedAt p 0 2 = 0) ∧
    Met (.setAdvanceCap (con [2, 0x58])) ready (fun _ p => signedAt p 0 2 = 600) ∧
    Met (.setAdvanceCap (con [2, 0x59])) ready (fun _ p => 600 < signedAt p 0 2) := by
  refine ⟨met ?_ ?_, met ?_ ?_, met ?_ ?_, met ?_ ?_⟩ <;> decide

/-- Both drums at a depth: the reading of each channel that gives it. -/
def atDepth (d : Int) : State := (ready.setChannel 0 (liveChannel 1 (.sonic .plus) (8450 - d) (some 8450))).setChannel 1
  (liveChannel 2 (.rope .minus) (2983 + d) (some 2983))

/-- No side with a measured depth. -/
def unroled : State := { ready with monitor.roles.leftGrade := none, monitor.roles.rightGrade := none }

/-- The in-cut threshold itself, one below it on both sides, and no measured depth. -/
theorem wit_GovernorIntervalsFormTheCeiling :
    let g := ready.station.geometry
    ((atDepth g.inCutThreshold).heldReset = none ∧
      (atDepth g.inCutThreshold).measuredDepth .left = some (g.inCutThreshold : Int)) ∧
    ((atDepth (g.inCutThreshold - 1)).heldReset = none ∧
      (atDepth (g.inCutThreshold - 1)).measuredDepth .left = some ((g.inCutThreshold : Int) - 1) ∧
      (atDepth (g.inCutThreshold - 1)).measuredDepth .right = some ((g.inCutThreshold : Int) - 1)) ∧
    (unroled.heldReset = none ∧ unroled.measuredDepth .left = none ∧ unroled.measuredDepth .right = none) := by decide

/-- The load channel at `w` with the reduction and the below-window count given. -/
def loadedAt (w : Int) (red below : Nat) : State := { ready.setChannel 3 (liveChannel 4 .load w none) with
  governor.reduction := red, governor.belowCount := below }

/-- No LIVE load, and loads of 98, 97, the threshold 85, 84, 80 and 79, each with the counts its row reads. -/
theorem wit_LoadWindowsMoveTheReduction :
    let ok (w : Int) (red below : Nat) : Prop := (loadedAt w red below).heldReset = none ∧
      (loadedAt w red below).drumLoad = some w ∧ GovernorOk (loadedAt w red below)
    { ready with monitor.roles.drumLoad := none }.drumLoad = none ∧
    ready.activeBank.loadThreshold = 85 ∧ ok 98 70 1 ∧ ok 97 60 0 ∧ ok 97 70 0 ∧ ok 85 0 1 ∧ ok 84 100 0 ∧ ok 80 30 1 ∧
    ok 79 30 0 ∧ ok 79 100 1 ∧ ok 79 70 1 ∧ ok 79 10 1 ∧ ok 79 0 1 := by
  intro ok
  and_intros <;> decide

/-- Each request in each state its row names; CLEAR BLOCK at the block pressure of 220, at 219 and with no
pressure known. -/
theorem wit_ConveyorRequestsMoveTheBelt :
    let inState (v : ConveyorState) : State := milling (belt v 0)
    let pressed (p : Int) : State := (inState .blocked).setChannel 4 (liveChannel 5 .belt p none)
    (∀ v ∈ [ConveyorState.stopped, .running, .runOn, .held, .blocked],
      (inState v).conveyor.state = v ∧
      isServed (.conveyorStart (con [])) (put (.conveyorStart (con [])) (inState v)) = true ∧
      isServed (.conveyorStop (con [])) (put (.conveyorStop (con [])) (inState v)) = true ∧
      isServed (.truckAway (con [])) (put (.truckAway (con [])) (inState v)) = true ∧
      isServed (.truckReady (con [])) (put (.truckReady (con [])) (inState v)) = true ∧
      isServed (.clearBlock (con [])) (put (.clearBlock (con [])) (inState v)) = true ∧
      isServed (.clearTotals (con [])) (put (.clearTotals (con [])) (inState v)) = true) ∧
    Met (.clearBlock (con [])) (pressed 220) (fun t _ => t.conveyor.state = .blocked ∧
      ∃ p, t.beltPressure = some p ∧ t.station.geometry.blockPressure ≤ p) ∧
    Met (.clearBlock (con [])) (pressed 219) (fun t _ => t.conveyor.state = .blocked ∧
      ∀ p, t.beltPressure = some p → p < t.station.geometry.blockPressure) ∧
    Met (.clearBlock (con [])) { inState .blocked with monitor.roles.beltPressure := none } (fun t _ =>
      t.conveyor.state = .blocked ∧ ∀ p, t.beltPressure = some p → p < t.station.geometry.blockPressure) := by
  refine ⟨by decide, met (by decide) ⟨by decide, 220, by decide, by decide⟩,
    met (by decide) ⟨by decide, fun p h => ?_⟩, met (by decide) ⟨by decide, fun p h => ?_⟩⟩
  · cases h
    decide
  · cases h

/-- Modes 0, 3 and 1; speeds of 99, 100 (0064h), 450 (01C2h) and 451; targets of −1, 0, 40,000 (9C40h) and 40,001. -/
theorem wit_BeltModesAndTruckTargetsAreSet :
    Met (.setBeltMode (con [0, 0, 100])) ready (fun _ p => fieldAt p 0 1 ≠ 1 ∧ fieldAt p 0 1 ≠ 2) ∧
    Met (.setBeltMode (con [3, 0, 100])) ready (fun _ p => fieldAt p 0 1 ≠ 1 ∧ fieldAt p 0 1 ≠ 2) ∧
    Met (.setBeltMode (con [1, 0, 0])) (milling (belt .running 100)) (fun _ p => fieldAt p 0 1 = 1) ∧
    Met (.setBeltMode (con [2, 0, 99])) ready (fun t p => fieldAt p 0 1 = 2 ∧ fieldAt p 1 2 < t.station.geometry.beltMin) ∧
    Met (.setBeltMode (con [2, 0, 100])) ready (fun t p => fieldAt p 1 2 = t.station.geometry.beltMin) ∧
    Met (.setBeltMode (con [2, 1, 0xC2])) ready (fun t p => fieldAt p 1 2 = t.station.geometry.beltMax) ∧
    Met (.setBeltMode (con [2, 1, 0xC3])) ready (fun t p => t.station.geometry.beltMax < fieldAt p 1 2) ∧
    Met (.setTruckTarget (con [0xFF, 0xFF, 0xFF, 0xFF])) ready (fun _ p => signedAt p 0 4 < 0) ∧
    Met (.setTruckTarget (con [0, 0, 0, 0])) ready (fun _ p => signedAt p 0 4 = 0) ∧
    Met (.setTruckTarget (con [0, 0, 0x9C, 0x40])) ready (fun _ p => signedAt p 0 4 = 40000) ∧
    Met (.setTruckTarget (con [0, 0, 0x9C, 0x41])) ready (fun _ p => 40000 < signedAt p 0 4) := by
  refine ⟨met ?_ ?_, met ?_ ?_, met ?_ ?_, met ?_ ?_, met ?_ ?_, met ?_ ?_, met ?_ ?_, met ?_ ?_, met ?_ ?_,
    met ?_ ?_, met ?_ ?_⟩ <;> decide

/-- `atDepth` with a conveyor and a speed. -/
def conveying (d : Int) (c : Conveyor) : State := { atDepth d with
  conveyor := c, station := { ready.station with speed := 150 } }

/-- In the cut at the threshold and below it; no depth; a run-on at its last interval and before it; the ninth and
the tenth interval over the block pressure. -/
theorem wit_ConveyorIntervalsWorkThroughTheStages :
    let g := ready.station.geometry
    let c := { belt .running 257 with truckTarget := 0 }
    let ok (s : State) : Prop := s.heldReset = none ∧ StationOk s ∧ MaterialOk s
    let runOn (n : Nat) : Conveyor := { c with state := .runOn, runOnSpeed := some 257, runOnCount := n }
    (ok (conveying g.inCutThreshold c) ∧ (conveying g.inCutThreshold c).measuredDepth .left = some (g.inCutThreshold : Int)) ∧
    (ok (conveying (g.inCutThreshold - 1) c) ∧
      (conveying (g.inCutThreshold - 1) c).measuredDepth .left = some ((g.inCutThreshold : Int) - 1)) ∧
    ok { unroled with conveyor := resetConveyor } ∧ ok (conveying 0 (runOn 1)) ∧ ok (conveying 0 (runOn 2)) ∧
    ok ((conveying 1200 { c with blockCount := 8 }).setChannel 4 (liveChannel 5 .belt 220 none)) ∧
    ok ((conveying 1200 { c with blockCount := 9 }).setChannel 4 (liveChannel 5 .belt 220 none)) ∧
    ok { conveying 1200 c with conveyor := { c with fill := 60000, milled := 48060000 } } := by
  intro g c ok runOn
  and_intros <;> decide

/-! ### Notices, links and resets -/

/-- Sets with bit 19, of all nineteen notices, and a mask from a requester other than CONSOLE. -/
theorem wit_NoticesAreAcknowledgedAndMasked :
    Met (.acknowledgeNotices (con [8, 0, 0])) ready (fun _ p => 2 ^ 19 ≤ fieldAt p 0 3) ∧
    Met (.acknowledgeNotices (from' .leftPanel [7, 0xFF, 0xFF])) ready (fun _ p => fieldAt p 0 3 < 2 ^ 19) ∧
    Met (.setNoticeMask (con [8, 0, 0])) ready (fun _ p => 2 ^ 19 ≤ fieldAt p 0 3) ∧
    Met (.setNoticeMask (con [7, 0xFF, 0xFF])) ready (fun _ p => fieldAt p 0 3 < 2 ^ 19) ∧
    AtHead (.setNoticeMask (from' .planTerminal [0, 0, 1])) ready
      (fun row r => sizedAs row.size r ∧ r.requester ≠ .console) := by
  refine ⟨met ?_ ?_, met ?_ ?_, met ?_ ?_, met ?_ ?_, _, _, rfl, ⟨rfl, rfl, rfl, rfl⟩, ?_⟩ <;>
    (try unfold sizedAs) <;> decide

theorem wit_NoticesLatchCountAndAlert :
    (ready.notice .fillHigh).cause = false ∧ ((ready.tellCause .fillHigh true).notice .fillHigh).cause = true := by decide

/-- Identifiers 300h and 305h, an extended and a remote frame; CONSOLE with three and with four frames waiting;
a frame of three bytes with a known code, one of two bytes, and one of an unknown code at the head. -/
theorem wit_ArrivalsJoinTheQueue :
    let f : Frame := ⟨.console, [0x7E, 0, 0]⟩
    let waiting (n : Nat) : State := { ready with link.queue := List.replicate n f }
    let atHead (g : Frame) (s : State) : Prop := s.heldReset = none ∧ s.link.response = none ∧
      s.link.restartTaken = false ∧ s.link.queue.head? = some g
    ready.heldReset = none ∧
    (CanFrame.mk false false true 0x300 [0]).ident < 0x301 ∧ 0x304 < (CanFrame.mk false false true 0x305 [0]).ident ∧
    (CanFrame.mk true false true 0x301 [0]).extended = true ∧ (CanFrame.mk false true false 0x301 []).remote = true ∧
    ((waiting 3).link.queue.length < 4 ∧ 4 ≤ (waiting 4).link.queue.length) ∧
    (3 ≤ f.data.length ∧ ∃ i row r, requestRow i = some (row, r) ∧ row.code = (f.data.getD 0 0).toNat) ∧
    (¬ 3 ≤ (Frame.mk .leftPanel [0x42, 1]).data.length ∧
      atHead ⟨.leftPanel, [0x42, 1]⟩ { ready with link.queue := [⟨.leftPanel, [0x42, 1]⟩, f] }) ∧
    ((¬ ∃ i row r, requestRow i = some (row, r) ∧ row.code = (0xFF : Nat)) ∧
      atHead ⟨.console, [0xFF, 1, 0]⟩ { ready with link.queue := [⟨.console, [0xFF, 1, 0]⟩] }) := by
  refine ⟨by decide, by decide, by decide, by decide, by decide, by decide,
    ⟨by decide, .presence (con []), _, _, rfl, by decide⟩, by decide, ?_, by decide⟩
  rintro ⟨i, row, r, h, hc⟩
  cases i <;> simp only [requestRow, Option.some.injEq, Prod.mk.injEq, reduceCtorEq] at h <;>
    (obtain ⟨rfl, -⟩ := h; simp at hc)

theorem wit_LinkEventsEmptyTheSlots :
    (segmented.heldReset = none ∧ segmented.link.broadcast = none ∧
      (ran .statusBroadcast segmented).heldReset = none ∧ (ran .statusBroadcast segmented).link.broadcast ≠ none) ∧
    ready.heldReset = none ∧ ({ ready with link.supervision := none } : State).link.supervision = none ∧
    (cutting.link.supervision ≠ none ∧ (cutting.left.state = .auto ∨ cutting.right.state = .auto)) ∧
    (ready.link.supervision ≠ none ∧ ¬(ready.left.state = .auto ∨ ready.right.state = .auto)) := by decide

theorem wit_ResetsHoldThePart :
    Met (.presence (from' .planTerminal [])) ready (fun _ _ => True) ∧ Met (.restart (con [])) cutting (fun _ _ => True) ∧
    (let s := ran .responseSent (served (.restart (con [])) cutting)
    s.heldReset = none ∧ s.link.restartTaken = true ∧ s.link.response = none) ∧
    (held .warm ready).heldReset ≠ none ∧ ready.link.restartTaken = false ∧
    (served (.restart (con [])) cutting).link.response ≠ none ∧
    (∀ src, (Instr.statusBroadcast) ≠ .resetAssert src) ∧
    (∀ a b c d, Instr.statusBroadcast ≠ .coldResetRelease a b c d) ∧
    (∀ a b, Instr.statusBroadcast ≠ .warmResetRelease a b) := by
  refine ⟨met ?_ trivial, met ?_ trivial, ?_, ?_, ?_, ?_, ?_, ?_, ?_⟩
  rotate_right 3
  · intro src h; cases h
  · intro a b c d h; cases h
  · intro a b h; cases h
  all_goals decide

theorem wit_ResetsReleaseTheirValues :
    ready.heldReset ≠ some .cold ∧ ((held .cold cutting).heldReset = some .cold ∧
      (3 : Fin 4).val = 2 * (if true then 1 else 0) + (if true then 1 else 0) ∧
      (0 : Fin 4).val = 2 * (if false then 1 else 0) + (if false then 1 else 0)) ∧
    ready.heldReset ≠ some .warm ∧ (held .warm cutting).heldReset = some .warm := by decide

/-! ### Arithmetic and layouts -/

theorem wit_RootsRoundingAndByteOrder :
    (0 < 3 ∧ divUp 7 3 = 3) ∧ (65535 < 256 ^ 2 ∧ beBytes 2 65535 = [0xFF, 0xFF]) ∧
    (0 < 2 ∧ -((256 ^ 2 / 2 : Nat) : Int) ≤ -32768 ∧ (-32768 : Int) < (256 ^ 2 / 2 : Nat)) ∧
    ((32767 : Int) < (256 ^ 2 / 2 : Nat) ∧ intBytes 2 (-32768) = [0x80, 0]) := by decide

/-- A zone and a mark payload at the ends of their ranges (an absent field out of its range untested), and just past them;
then the records at the ends of their ranges, the default geometry and bank, and nineteen bits. -/
theorem wit_RecordsSurviveTheirLayout :
    (let p := zoneBytes ⟨9999989, 9999999, 5000, 0, 5000, 4, some (-1000), some 600⟩
    fieldAt p 15 1 = 3 ∧ fieldAt p 0 4 = 9999989 ∧ fieldAt p 0 4 + 10 = fieldAt p 4 4 ∧ fieldAt p 4 4 = 9999999 ∧
      fieldAt p 8 2 = 5000 ∧ fieldAt p 10 2 = 0 ∧ fieldAt p 12 2 = 5000 ∧ fieldAt p 14 1 = 4 ∧ signedAt p 16 2 = -1000 ∧
      fieldAt p 18 2 = 600) ∧
    (fieldAt (zone1Bytes.set 14 0) 14 1 = 0 ∧ fieldAt (zone1Bytes.set 15 4) 15 1 = 4 ∧
      (checkedZone (zone1Bytes.set 16 0x7F)).isSome = true) ∧
    (let p := markBytes ⟨9999999, 1, .left, 3500, some 50⟩
    fieldAt p 0 4 = 9999999 ∧ fieldAt p 4 2 = 1 ∧ fieldAt p 6 1 = 1 ∧ fieldAt p 7 2 = 3500 ∧ fieldAt p 9 1 = 1 ∧
      fieldAt p 10 1 = 50 ∧ fieldAt (p.set 6 4) 6 1 = 4) ∧
    (ZoneFields.mk 9999989 9999999 5000 0 5000 4 (some (-1000)) (some 600)).inRange = true ∧
    (MarkFields.mk 9999999 1 .left 3500 (some 50)).inRange (Config.drumMax 3) = true ∧
    defaultGeometry.inRange = true ∧ defaultHard.inRange = true ∧ (bankBytes defaultHard).length = 20 ∧
    (geometryBytes defaultGeometry).length = 30 ∧ geometryOfBytes (geometryBytes defaultGeometry) = some defaultGeometry ∧
    (List.replicate 19 true).length = 19 := by decide

/-! ### A part in the cut keeps every law, and steps -/

/-- `cutting` with the next command in front. -/
def cuttingWith (i : Instr) : State := { cutting with pending := [i] }

theorem noCondition {s : State} (h1 : ∀ x, (s.side x).state = .auto → (s.side x).context.source ≠ .hold)
    (h2 : s.station.valid = true) (h3 : ∀ r ∈ allRoles, (s.roleChannel r).map Channel.health ≠ none →
      (s.roleChannel r).map Channel.health = some .live) (h4 : ∀ x, (s.side x).state ≠ .frozen)
    (h5 : s.conveyor.fillLatch = false) (h6 : s.conveyor.truckTarget = 0) (h7 : s.conveyor.state ≠ .blocked)
    (h8 : s.link.linkLoss = false) (n : Notice) : ¬ s.condition n := by
  intro h
  cases n <;> simp only [State.condition] at h
  case planGap => obtain ⟨x, ha, hb⟩ := h; exact h1 x ha hb
  case stationInvalid => simp [h2] at h
  case sensorLost =>
    obtain ⟨r, c, hc, hl⟩ := h
    have hm := h3 r (by cases r <;> decide)
    rw [Option.mem_def.mp hc] at hm
    exact hl (by simpa using hm (by simp))
  case sideFrozen => obtain ⟨x, hx⟩ := h; exact h4 x hx
  case fillHigh => simp [h5] at h
  case truckFull => omega
  case beltBlocked => exact h7 h
  case linkLost => simp [h8] at h

theorem cutting_zones : ZonesOk cutting := by unfold ZonesOk; decide
theorem cutting_marks : MarksOk cutting := by unfold MarksOk Mark.sideOk; decide
theorem cutting_governance : GovernanceOk cutting := ⟨zone1, by decide, by decide, by unfold State.inForce; decide⟩
theorem cutting_station : StationOk cutting := by unfold StationOk; decide
theorem cutting_channels : ChannelsOk cutting := by refine channelsInLaw ?_ ?_ ?_ ?_ <;> decide
theorem cutting_sides : SidesOk cutting := by unfold SidesOk State.sideOk State.holdsLive; and_intros <;> decide
theorem cutting_demands : DemandsOk cutting := by unfold DemandsOk State.demandOk; and_intros <;> decide
theorem cutting_targets : TargetsOk cutting := by unfold TargetsOk State.contextOk between; and_intros <;> decide
theorem cutting_governor : GovernorOk cutting := by unfold GovernorOk; decide
theorem cutting_material : MaterialOk cutting := by unfold MaterialOk; and_intros <;> decide
theorem cutting_causes : CausesOk cutting := by
  have hc := noCondition (s := cutting) (by intro x; cases x <;> decide) rfl (by decide) (by intro x; cases x <;> decide)
    rfl rfl (by decide) rfl
  have hn : ∀ n : Notice, (cutting.notice n).cause = false := by intro n; cases n <;> rfl
  exact fun n => ⟨⟨fun h => by simp [hn n] at h, fun h => absurd h (hc n)⟩, fun h => by simp [hn n] at h⟩
theorem cutting_alert : AlertOk cutting := ⟨fun _ => ⟨rfl, .coldStart, rfl, rfl⟩, fun _ => rfl⟩
theorem cutting_link : LinkOk cutting := by unfold LinkOk; decide
theorem cutting_timers : TimersOk cutting := by unfold TimersOk; decide

/-- None of the laws speaks of the queue of commands. -/
theorem cutting_meets_every_law (i : Instr) : Inv (cuttingWith i) :=
  ⟨cutting_zones, cutting_marks, cutting_governance, cutting_station, cutting_channels, cutting_sides, cutting_demands,
    cutting_targets, cutting_governor, cutting_material, cutting_causes, cutting_alert, cutting_link,
    cutting_timers⟩

/-- A part in the cut with both sides in AUTO, and one step of it. -/
theorem wit_StepsKeepThePlanInOrder : let s := cuttingWith (.encoderCount .encA)
    Inv s ∧ step s = .next (ran (.encoderCount .encA) cutting) := ⟨cutting_meets_every_law _, rfl⟩
theorem wit_StepsKeepTheSidesInTheirLaws : let s := cuttingWith (.sideIntervalExpiry .right)
    Inv s ∧ step s = .next (ran (.sideIntervalExpiry .right) cutting) := ⟨cutting_meets_every_law _, rfl⟩
theorem wit_StepsKeepTheMaterialAccount : let s := cuttingWith .conveyorIntervalExpiry
    Inv s ∧ step s = .next (ran .conveyorIntervalExpiry cutting) := ⟨cutting_meets_every_law _, rfl⟩
theorem wit_StepsKeepNoticesAndLinks : let s := cuttingWith .supervisionExpiry
    Inv s ∧ step s = .next (ran .supervisionExpiry cutting) := ⟨cutting_meets_every_law _, rfl⟩

end Sys2Proof.Tests
end

section
/-! Proofs for `Obligations.RefusedRequestsChangeNothing` (R2): which answers of a block keep the state,
that each block's answer does, and that the status byte of a response tells the status. -/
namespace Sys2Proof.Machine

/-! ### Answers that keep the state when they refuse (R2) -/

/-- R2 of one answer to a request put to `s`: with a status other than DONE and CLAMPED it is the bare
refusal, which has the state `s` and no payload. -/
def KeepsOnRefusal (s : State) (a : State × Reply) : Prop :=
  a.2.status.accepted = false → a = refuse a.2.status s

theorem KeepsOnRefusal.of_refuse {s : State} {v : Status} : KeepsOnRefusal s (refuse v s) := fun _ => rfl

theorem KeepsOnRefusal.of_accepted {s : State} {a : State × Reply} (h : a.2.status.accepted = true) :
    KeepsOnRefusal s a := fun hr => absurd (h.symm.trans hr) Bool.noConfusion

theorem KeepsOnRefusal.of_taken {s t : State} : KeepsOnRefusal s (taken t) := .of_accepted rfl

/-- The answer of the requests that bring an operand within its range. -/
theorem KeepsOnRefusal.of_clamp {s t : State} {c : Prop} [Decidable c] {p : List Byte} {q : Option (List Byte)} :
    KeepsOnRefusal s (t, ⟨if c then .done else .clamped, p, q⟩) :=
  .of_accepted (by by_cases h : c <;> simp [h, Status.accepted])

theorem KeepsOnRefusal.ite {s : State} {c : Prop} [Decidable c] {a b : State × Reply} (ha : KeepsOnRefusal s a)
    (hb : KeepsOnRefusal s b) : KeepsOnRefusal s (if c then a else b) := by
  split
  · exact ha
  · exact hb

theorem KeepsOnRefusal.of_withZone {s : State} {n : Nat} {act : Zone → State × Reply}
    (h : ∀ z, KeepsOnRefusal s (act z)) : KeepsOnRefusal s (withZone n s act) := by
  refine .ite .of_refuse ?_
  split
  · exact .of_refuse
  · exact h _

theorem KeepsOnRefusal.of_withMark {s : State} {n : Nat} {act : Mark → State × Reply}
    (h : ∀ m, KeepsOnRefusal s (act m)) : KeepsOnRefusal s (withMark n s act) := by
  refine .ite .of_refuse ?_
  split
  · exact .of_refuse
  · exact h _

theorem KeepsOnRefusal.of_withSide {s : State} {p : List Byte} {act : Side → State × Reply}
    (h : ∀ x, KeepsOnRefusal s (act x)) : KeepsOnRefusal s (withSide p s act) := by
  unfold withSide
  split
  · exact .of_refuse
  · exact h _

/-! ### The zone requests (Chapter 1) -/

theorem insertZone_keepsOnRefusal (p : List Byte) (s : State) : KeepsOnRefusal s (insertZone p s) := by
  unfold insertZone
  split
  · exact .of_refuse
  · refine .ite .of_refuse ?_
    split
    · exact .of_refuse
    · exact .of_accepted rfl

theorem amendZone_keepsOnRefusal (p : List Byte) (s : State) : KeepsOnRefusal s (amendZone p s) := by
  refine .of_withZone fun z => ?_
  split
  · exact .of_refuse
  · exact .ite .of_refuse .of_taken

theorem suspendZone_keepsOnRefusal (p : List Byte) (s : State) : KeepsOnRefusal s (suspendZone p s) :=
  .of_withZone fun _ => .ite .of_taken .of_taken

theorem reinstateZone_keepsOnRefusal (p : List Byte) (s : State) : KeepsOnRefusal s (reinstateZone p s) :=
  .of_withZone fun _ => .ite .of_taken .of_taken

theorem retireZone_keepsOnRefusal (p : List Byte) (s : State) : KeepsOnRefusal s (retireZone p s) :=
  .of_withZone fun _ => .of_taken

theorem readZone_keepsOnRefusal (p : List Byte) (s : State) : KeepsOnRefusal s (readZone p s) :=
  .of_withZone fun _ => .of_accepted rfl

theorem findZone_keepsOnRefusal (p : List Byte) (s : State) : KeepsOnRefusal s (findZone p s) := by
  refine .ite .of_refuse ?_
  split
  · exact .of_refuse
  · exact .of_accepted rfl

theorem listZones_keepsOnRefusal (p : List Byte) (s : State) : KeepsOnRefusal s (listZones p s) :=
  .ite .of_refuse (.of_accepted rfl)

/-! ### The mark requests (Chapter 1) -/

theorem insertMark_keepsOnRefusal (p : List Byte) (s : State) : KeepsOnRefusal s (insertMark p s) := by
  unfold insertMark
  split
  · exact .of_refuse
  · split
    · exact .of_refuse
    · exact .of_accepted rfl

theorem amendMark_keepsOnRefusal (p : List Byte) (s : State) : KeepsOnRefusal s (amendMark p s) := by
  refine .of_withMark fun m => ?_
  split
  · exact .of_refuse
  · exact .of_taken

theorem retireMark_keepsOnRefusal (p : List Byte) (s : State) : KeepsOnRefusal s (retireMark p s) :=
  .of_withMark fun _ => .of_taken

theorem readMark_keepsOnRefusal (p : List Byte) (s : State) : KeepsOnRefusal s (readMark p s) :=
  .of_withMark fun _ => .of_accepted rfl

theorem listMarks_keepsOnRefusal (p : List Byte) (s : State) : KeepsOnRefusal s (listMarks p s) :=
  .ite .of_refuse (.of_accepted rfl)

/-! ### The geometry and station requests (Chapter 2) -/

theorem writeGeometry_keepsOnRefusal (p : List Byte) (s : State) : KeepsOnRefusal s (writeGeometry p s) := by
  unfold writeGeometry
  split
  · exact .of_refuse
  · exact .of_taken

theorem fixStation_keepsOnRefusal (p : List Byte) (s : State) : KeepsOnRefusal s (fixStation p s) :=
  .ite .of_refuse (.ite .of_refuse .of_taken)

theorem setTravelSense_keepsOnRefusal (p : List Byte) (s : State) : KeepsOnRefusal s (setTravelSense p s) := by
  unfold setTravelSense
  split
  · exact .of_refuse
  · exact .ite .of_refuse .of_taken

/-! ### The channel and role requests (Chapter 4) -/

theorem configureChannel_keepsOnRefusal (p : List Byte) (s : State) : KeepsOnRefusal s (configureChannel p s) := by
  unfold configureChannel
  split
  · exact .of_refuse
  · exact .ite .of_refuse (.ite .of_refuse (.ite .of_refuse .of_taken))

theorem clearChannel_keepsOnRefusal (p : List Byte) (s : State) : KeepsOnRefusal s (clearChannel p s) := by
  unfold clearChannel
  split
  · exact .of_refuse
  · exact .ite .of_refuse (.ite .of_taken .of_taken)

theorem readChannel_keepsOnRefusal (p : List Byte) (s : State) : KeepsOnRefusal s (readChannel p s) := by
  unfold readChannel
  split
  · exact .of_refuse
  · exact .of_accepted rfl

theorem assignRole_keepsOnRefusal (p : List Byte) (s : State) : KeepsOnRefusal s (assignRole p s) := by
  unfold assignRole
  split
  · refine .ite .of_refuse (.ite .of_taken (.ite (.ite .of_refuse ?_) .of_taken))
    split
    · exact .of_refuse
    · exact .ite .of_taken .of_refuse
  · exact .of_refuse

theorem setZero_keepsOnRefusal (p : List Byte) (s : State) : KeepsOnRefusal s (setZero p s) := by
  unfold setZero
  split
  · exact .of_refuse
  · refine .ite .of_refuse (.ite .of_refuse ?_)
    split
    · exact .of_refuse
    · exact .ite .of_taken .of_refuse

/-! ### The side requests (Chapter 5) -/

theorem engage_keepsOnRefusal (p : List Byte) (s : State) : KeepsOnRefusal s (engage p s) :=
  .of_withSide fun _ =>
    .ite .of_refuse (.ite .of_taken (.ite .of_refuse (.ite .of_refuse (.ite .of_refuse .of_taken))))

theorem disengage_keepsOnRefusal (p : List Byte) (s : State) : KeepsOnRefusal s (disengage p s) :=
  .of_withSide fun _ => .of_taken

theorem jog_keepsOnRefusal (p : List Byte) (s : State) : KeepsOnRefusal s (jog p s) := by
  refine .of_withSide fun x => ?_
  split
  · exact .of_refuse
  · exact .of_taken

theorem reference_keepsOnRefusal (p : List Byte) (s : State) : KeepsOnRefusal s (reference p s) :=
  .of_withSide fun _ =>
    .ite .of_refuse (.ite .of_refuse (.ite .of_refuse (.ite .of_refuse (.ite .of_refuse .of_taken))))

theorem setSideMode_keepsOnRefusal (p : List Byte) (s : State) : KeepsOnRefusal s (setSideMode p s) := by
  refine .of_withSide fun x => ?_
  split
  · exact .of_refuse
  · exact .ite .of_refuse (.ite .of_taken (.ite .of_refuse (.ite .of_refuse .of_taken)))

theorem setTrim_keepsOnRefusal (p : List Byte) (s : State) : KeepsOnRefusal s (setTrim p s) :=
  .of_withSide fun _ => .of_clamp

theorem readSide_keepsOnRefusal (p : List Byte) (s : State) : KeepsOnRefusal s (readSide p s) :=
  .of_withSide fun _ => .of_accepted rfl

/-! ### The bank requests (Chapter 6) -/

theorem writeBank_keepsOnRefusal (p : List Byte) (s : State) : KeepsOnRefusal s (writeBank p s) := by
  unfold writeBank
  split
  · exact .of_refuse
  · exact .ite .of_taken .of_refuse

theorem readBank_keepsOnRefusal (p : List Byte) (s : State) : KeepsOnRefusal s (readBank p s) := by
  unfold readBank
  split
  · exact .of_refuse
  · exact .of_accepted rfl

/-! ### The conveyor requests (Chapter 8) -/

theorem conveyorStart_keepsOnRefusal (p : List Byte) (s : State) : KeepsOnRefusal s (conveyorStart p s) := by
  unfold conveyorStart
  cases s.conveyor.state with
  | stopped | runOn | running => exact .of_taken
  | held | blocked => exact .of_refuse

theorem conveyorStop_keepsOnRefusal (p : List Byte) (s : State) : KeepsOnRefusal s (conveyorStop p s) := by
  unfold conveyorStop
  cases s.conveyor.state <;> exact .of_taken

theorem setBeltMode_keepsOnRefusal (p : List Byte) (s : State) : KeepsOnRefusal s (setBeltMode p s) := by
  unfold setBeltMode
  cases beltModeOf (fieldAt p 0 1) with
  | none => exact .of_refuse
  | some m =>
    cases m with
    | auto => exact .of_accepted rfl
    | fixed => exact .of_clamp

theorem truckAway_keepsOnRefusal (p : List Byte) (s : State) : KeepsOnRefusal s (truckAway p s) := by
  unfold truckAway
  cases s.conveyor.state with
  | running | runOn | held => exact .of_taken
  | stopped | blocked => exact .of_refuse

theorem truckReady_keepsOnRefusal (p : List Byte) (s : State) : KeepsOnRefusal s (truckReady p s) :=
  .ite .of_taken .of_taken

theorem clearBlock_keepsOnRefusal (p : List Byte) (s : State) : KeepsOnRefusal s (clearBlock p s) :=
  .ite .of_refuse (.ite .of_refuse .of_taken)

/-! ### The notice requests (Chapter 9) -/

theorem acknowledgeNotices_keepsOnRefusal (p : List Byte) (s : State) :
    KeepsOnRefusal s (acknowledgeNotices p s) := by
  unfold acknowledgeNotices
  split
  · exact .of_refuse
  · exact .of_accepted rfl

theorem setNoticeMask_keepsOnRefusal (p : List Byte) (s : State) : KeepsOnRefusal s (setNoticeMask p s) := by
  unfold setNoticeMask
  split
  · exact .of_refuse
  · exact .of_taken

/-! ### Every request -/

/-- R2 for the owning block's answer to any request. -/
theorem requestAct_keepsOnRefusal (i : Instr) (p : List Byte) (s : State) : KeepsOnRefusal s (requestAct i p s) := by
  cases i with
  | insertZone => exact insertZone_keepsOnRefusal p s
  | amendZone => exact amendZone_keepsOnRefusal p s
  | suspendZone => exact suspendZone_keepsOnRefusal p s
  | reinstateZone => exact reinstateZone_keepsOnRefusal p s
  | retireZone => exact retireZone_keepsOnRefusal p s
  | readZone => exact readZone_keepsOnRefusal p s
  | findZone => exact findZone_keepsOnRefusal p s
  | listZones => exact listZones_keepsOnRefusal p s
  | insertMark => exact insertMark_keepsOnRefusal p s
  | amendMark => exact amendMark_keepsOnRefusal p s
  | retireMark => exact retireMark_keepsOnRefusal p s
  | readMark => exact readMark_keepsOnRefusal p s
  | listMarks => exact listMarks_keepsOnRefusal p s
  | writeGeometry => exact writeGeometry_keepsOnRefusal p s
  | fixStation => exact fixStation_keepsOnRefusal p s
  | setTravelSense => exact setTravelSense_keepsOnRefusal p s
  | configureChannel => exact configureChannel_keepsOnRefusal p s
  | clearChannel => exact clearChannel_keepsOnRefusal p s
  | readChannel => exact readChannel_keepsOnRefusal p s
  | assignRole => exact assignRole_keepsOnRefusal p s
  | setZero => exact setZero_keepsOnRefusal p s
  | engage => exact engage_keepsOnRefusal p s
  | disengage => exact disengage_keepsOnRefusal p s
  | jog => exact jog_keepsOnRefusal p s
  | reference => exact reference_keepsOnRefusal p s
  | setSideMode => exact setSideMode_keepsOnRefusal p s
  | setTrim => exact setTrim_keepsOnRefusal p s
  | readSide => exact readSide_keepsOnRefusal p s
  | writeBank => exact writeBank_keepsOnRefusal p s
  | readBank => exact readBank_keepsOnRefusal p s
  | conveyorStart => exact conveyorStart_keepsOnRefusal p s
  | conveyorStop => exact conveyorStop_keepsOnRefusal p s
  | setBeltMode => exact setBeltMode_keepsOnRefusal p s
  | truckAway => exact truckAway_keepsOnRefusal p s
  | truckReady => exact truckReady_keepsOnRefusal p s
  | clearBlock => exact clearBlock_keepsOnRefusal p s
  | acknowledgeNotices => exact acknowledgeNotices_keepsOnRefusal p s
  | setNoticeMask => exact setNoticeMask_keepsOnRefusal p s
  | setAdvanceCap | setTruckTarget => exact .of_clamp
  -- The requests that are always taken, and the events, which no block answers.
  | _ => exact .of_accepted rfl

/-- R2 for the answer to a taken frame, whichever test of R188 decides it. -/
theorem judgeRequest_keepsOnRefusal (i : Instr) (row : RequestRow) (r : Request) (s : State) :
    KeepsOnRefusal s (judgeRequest row.size row.grant (requestAct i) r s) :=
  .ite .of_refuse (.ite .of_refuse (requestAct_keepsOnRefusal i _ s))

/-! ### The status byte of a response (R190, R199) -/

/-- The status a status byte stands for, read from the table of R199. -/
def statusOfByte (b : Byte) : Status :=
  [Status.done, .clamped, .badRequest, .outOfRange, .overlap, .tableFull, .noRecord, .wrongState, .notPermitted,
    .notLive, .unreferenced, .fixTooFar, .duplicateAddress, .drumIdle].getD b.toNat .done

theorem statusOfByte_code (v : Status) : statusOfByte (BitVec.ofNat 8 v.code) = v := by cases v <;> rfl

/-- Two statuses with one status byte are one status. -/
theorem Status.eq_of_byte_eq {v w : Status} (h : BitVec.ofNat 8 v.code = BitVec.ofNat 8 w.code) : v = w :=
  calc
    v = statusOfByte (BitVec.ofNat 8 v.code) := (statusOfByte_code v).symm
    _ = statusOfByte (BitVec.ofNat 8 w.code) := congrArg statusOfByte h
    _ = w := statusOfByte_code w

/-- The third byte of the response in the slot is the status of the answer. -/
theorem State.answers_statusByte {s : State} {row : RequestRow} {r : Request} {v : Status} {p : List Byte}
    {q : Option (List Byte)} {m : ResponseSlot} (h : (s.answers row r v p q).link.response = some m) :
    m.data.getD 2 0 = BitVec.ofNat 8 v.code := by
  obtain rfl := Option.some.inj h
  rfl

/-- Settles O7: the status byte tells the status of the answer, and a refusing answer is the bare refusal
on the state without the frame. -/
theorem refusedRequestsChangeNothing : Obligations.RefusedRequestsChangeNothing := by
  intro i row r s t status m hrow hhead hexec hslot hbyte hrefused
  have hkeep := judgeRequest_keepsOnRefusal i row r s.popped
  rw [exec_judged hrow hhead] at hexec
  generalize judgeRequest row.size row.grant (requestAct i) r s.popped = a at hexec hkeep
  obtain rfl := Host.Outcome.next.inj hexec
  obtain rfl : a.2.status = status := Status.eq_of_byte_eq ((State.answers_statusByte hslot).symm.trans hbyte)
  have ha : a = refuse a.2.status s.popped := hkeep hrefused
  rw [ha]
  rfl

end Sys2Proof.Machine
end

section
/-! Proofs for `Obligations.GradeTargetsFollowThePlan` (R51, R53, R59 to R64): the plan context a side interval
leaves in AUTO, the stages of the target computation, and the smallest of a depth and the covering envelopes. -/
namespace Sys2Proof.Machine

/-! ### Clamped depths (R31, R59) -/

theorem bringWithin_of_within {lo hi v : Int} (hlo : lo ≤ v) (hhi : v ≤ hi) : bringWithin lo hi v = v := by
  rw [bringWithin, if_neg (Int.not_lt.mpr hlo), if_neg (Int.not_lt.mpr hhi)]

theorem State.clampDepth_within (s : State) (d : Int) : 0 ≤ s.clampDepth d ∧ s.clampDepth d ≤ s.maxDepth :=
  bringWithin_within d (Int.natCast_nonneg _)

theorem State.clampDepth_clampDepth (s : State) (d : Int) : s.clampDepth (s.clampDepth d) = s.clampDepth d := by
  obtain ⟨hlo, hhi⟩ := s.clampDepth_within d
  exact bringWithin_of_within hlo hhi

/-- Clamping lifts nothing above a bound that is not negative. -/
theorem State.clampDepth_le {s : State} {d b : Int} (hb : 0 ≤ b) (hd : d ≤ b) : s.clampDepth d ≤ b := by
  unfold State.clampDepth bringWithin
  split
  · exact hb
  · split <;> omega

/-! ### Stage 1: the plan depth (R51, R53) -/

theorem State.stage1_hold {x : Side} {s : State} (h : (s.side x).context.source = .hold) :
    s.stage1 x = (s.side x).context.holdDepth := by
  simp only [State.stage1, h]

theorem State.stage1_plan {x : Side} {s : State} {z : Zone} (h : (s.side x).context.source = .plan)
    (hz : s.governingZone = some z) :
    s.stage1 x = rampDepth (s.side x).context.entryDepth (z.depth x) z.fields.ramp
      (rampProgress s.station.sense (s.side x).context.entryStation s.station.station z.fields.ramp) := by
  simp only [State.stage1, h, hz]

/-- The forward travel grows with the station under ASCENDING and against it under DESCENDING. -/
theorem rampProgress_eq (sense : Sense) (entry station ramp : Nat) : rampProgress sense entry station ramp =
    bringWithin 0 ramp (if sense = .ascending then (station : Int) - entry else (entry : Int) - station) := by
  cases sense with
  | ascending => rfl
  | descending => rfl

theorem rampDepth_of_no_ramp {ramp : Nat} (entryDepth zoneDepth progress : Int) (h : ramp = 0) :
    rampDepth entryDepth zoneDepth ramp progress = zoneDepth := if_pos h

theorem rampDepth_of_ramp {ramp : Nat} (entryDepth zoneDepth progress : Int) (h : 0 < ramp) :
    rampDepth entryDepth zoneDepth ramp progress =
      entryDepth + ((zoneDepth - entryDepth) * progress).tdiv ramp := if_neg (Nat.ne_of_gt h)

/-! ### Stage 3: envelopes (R61, R62, R63) -/

theorem halfChord_eq (radius : Nat) (dref : Int) :
    halfChord radius dref = (isqrt (dref * (20 * (radius : Int) - dref)).toNat + 99) / 100 := divUp_eq (by decide)

/-- The model's envelope of a mark is the envelope written out in `State.figures`. -/
theorem State.envelope_eq_figures (s : State) (dref : Int) (m : MarkFields) :
    s.envelope dref m = (s.figures dref m).env := by
  simp only [State.envelope, envelopeAt, extentLo, extentHi, halfChord_eq]
  rfl

theorem envelopeAt_nonneg (c g : Nat) (lo hi station : Int) : 0 ≤ envelopeAt c g lo hi station := by
  have hgrow : ∀ d : Int, 0 < d → 0 ≤ (c : Int) + g * d := fun d hd =>
    Int.add_nonneg (Int.natCast_nonneg c) (Int.mul_nonneg (Int.natCast_nonneg g) (Int.le_of_lt hd))
  unfold envelopeAt
  split
  · exact hgrow _ (by omega)
  · split
    · exact hgrow _ (by omega)
    · exact Int.natCast_nonneg c

theorem State.envelope_nonneg (s : State) (dref : Int) (m : MarkFields) : 0 ≤ s.envelope dref m :=
  envelopeAt_nonneg ..

theorem State.mem_covering {x : Side} {s : State} {f : MarkFields} :
    f ∈ s.covering x ↔ ∃ m ∈ s.plan.marks, m.fields.covers x = true ∧ m.fields = f := by
  simp only [State.covering, List.mem_filter, List.mem_map]
  exact ⟨fun ⟨⟨m, hm, hf⟩, hc⟩ => ⟨m, hm, hf ▸ hc, hf⟩, fun ⟨m, hm, hc, hf⟩ => ⟨⟨m, hm, hf⟩, hf ▸ hc⟩⟩

/-- A fold with `min` finds the least of the start value and the values folded in. -/
theorem foldl_min_spec {α : Type} (f : α → Int) (d : Int) (l : List α) :
    let least := l.foldl (fun low a => min low (f a)) d
    least ≤ d ∧ (∀ a ∈ l, least ≤ f a) ∧ (least = d ∨ ∃ a ∈ l, least = f a) := by
  intro least
  have hleast : (d :: l.map f).min? = some least := by rw [List.min?_cons', List.foldl_map]
  obtain ⟨hmem, hle⟩ := List.min?_eq_some_iff.mp hleast
  refine ⟨hle d List.mem_cons_self, fun a ha => hle _ (List.mem_cons_of_mem _ (List.mem_map_of_mem ha)), ?_⟩
  obtain heq | hmem := List.mem_cons.mp hmem
  · exact .inl heq
  · obtain ⟨a, ha, heq⟩ := List.mem_map.mp hmem
    exact .inr ⟨a, ha, heq.symm⟩

/-- What a depth brought under the envelopes is: the least of it and the covering marks' envelopes, clamped. -/
theorem State.underEnvelopes_spec (x : Side) (dref d : Int) (s : State) :
    ∃ least : Int, s.underEnvelopes x dref d = s.clampDepth least ∧ least ≤ d ∧
      (∀ m ∈ s.plan.marks, m.fields.covers x = true → least ≤ s.envelope dref m.fields) ∧
      (least = d ∨ ∃ m ∈ s.plan.marks, m.fields.covers x = true ∧ least = s.envelope dref m.fields) := by
  obtain ⟨hd, henv, heq⟩ := foldl_min_spec (s.envelope dref) d (s.covering x)
  refine ⟨_, rfl, hd, fun m hm hc => henv _ (State.mem_covering.mpr ⟨m, hm, hc, rfl⟩), heq.imp_right ?_⟩
  rintro ⟨f, hf, hleast⟩
  obtain ⟨m, hm, hc, rfl⟩ := State.mem_covering.mp hf
  exact ⟨m, hm, hc, hleast⟩

/-! ### The control reference of a GRADE side (R60, R63, R64) -/

theorem State.referenceDepth_grade {x : Side} {s : State} (h : (s.side x).mode = .grade) :
    s.referenceDepth x = s.stage2 x := by
  simp only [State.referenceDepth, h]

theorem State.control_grade {x : Side} {s : State} (h : (s.side x).mode = .grade) :
    (s.control x).basis = .depth ∧ (s.control x).depthTarget =
      if s.station.valid then s.underEnvelopes x (s.stage2 x) (s.stage2 x) else s.stage2 x := by
  simp only [State.control, h, State.referenceDepth_grade h, true_and]
  rw [State.stage2, State.clampDepth_clampDepth]

/-- Under the envelopes a trimmed depth stays trimmed, or becomes a covering mark's envelope, clamped; and it is
no deeper than any of them. -/
theorem State.underEnvelopes_stage2 (x : Side) (s : State) :
    (∀ m ∈ s.plan.marks, m.fields.covers x = true →
      s.underEnvelopes x (s.stage2 x) (s.stage2 x) ≤ s.envelope (s.stage2 x) m.fields) ∧
    s.underEnvelopes x (s.stage2 x) (s.stage2 x) ≤ s.stage2 x ∧
    (s.underEnvelopes x (s.stage2 x) (s.stage2 x) = s.stage2 x ∨ ∃ m ∈ s.plan.marks, m.fields.covers x = true ∧
      s.underEnvelopes x (s.stage2 x) (s.stage2 x) = s.clampDepth (s.envelope (s.stage2 x) m.fields)) := by
  obtain ⟨least, hclamp, htrim, henv, hleast⟩ := s.underEnvelopes_spec x (s.stage2 x) (s.stage2 x)
  rw [hclamp]
  refine ⟨fun m hm hc => State.clampDepth_le (s.envelope_nonneg ..) (henv m hm hc),
    State.clampDepth_le (s.clampDepth_within _).1 htrim, ?_⟩
  obtain rfl | ⟨m, hm, hc, rfl⟩ := hleast
  · exact .inl (s.clampDepth_clampDepth _)
  · exact .inr ⟨m, hm, hc, rfl⟩

/-! ### The context a side interval leaves in AUTO (R49, R97) -/

/-- The drive, the settle count and a restart of the settle sequence leave the context of the computation. -/
theorem State.autoInterval_context (x : Side) (s : State) :
    ((s.autoInterval x).side x).context = s.contextAfter x := by
  unfold State.autoInterval
  dsimp only
  split <;> simp only [State.restartSettle_side, State.countSettle_side, State.drive_side, State.computeTarget_side]

theorem exec_sideIntervalExpiry_auto {x : Side} {s : State} (hrun : s.heldReset = none)
    (hauto : (s.side x).state = .auto) :
    exec (.sideIntervalExpiry x) s = .next ((s.autoInterval x).nextSidePeriod x) := by
  have hexec : exec (.sideIntervalExpiry x) s = .next (s.whileRunning ((s.sideInterval x).nextSidePeriod x)) := rfl
  have hinterval : s.sideInterval x = s.autoInterval x := by simp only [State.sideInterval, hauto]
  rw [hexec, State.whileRunning_running hrun, hinterval]

theorem context_of_sideIntervalExpiry_auto {x : Side} {s t : State} (hrun : s.heldReset = none)
    (hauto : (s.side x).state = .auto) (hexec : exec (.sideIntervalExpiry x) s = .next t) :
    (t.side x).context = s.contextAfter x := by
  rw [exec_sideIntervalExpiry_auto hrun hauto] at hexec
  obtain rfl := Host.Outcome.next.inj hexec
  rw [State.nextSidePeriod_side, State.autoInterval_context]

/-- Settles O37: the context left is the computation's; its plan depth is stage 1, and in GRADE mode its depth
target is stage 2 brought under the envelopes. -/
theorem gradeTargetsFollowThePlan : Obligations.GradeTargetsFollowThePlan := by
  intro x s t hrun hauto hexec c top clamp P T
  have hcontext := context_of_sideIntervalExpiry_auto hrun hauto hexec
  have hP : P = s.stage1 x := congrArg PlanContext.planDepth hcontext
  have hT : T = s.stage2 x := congrArg (fun p => s.clampDepth (p + (s.side x).trim)) hP
  refine ⟨fun hsource => hP.trans (State.stage1_hold hsource), fun z hsource hz => ?_, fun hgrade => ?_⟩
  · have hplan := hP.trans (State.stage1_plan hsource hz)
    rw [rampProgress_eq] at hplan
    intro zx r forward p
    have hzx : (z.depth x : Int) = zx := by cases x <;> rfl
    rw [hzx] at hplan
    exact ⟨fun hr => hplan.trans (rampDepth_of_no_ramp _ _ _ (Int.natCast_eq_zero.mp hr)),
      fun hr => hplan.trans (rampDepth_of_ramp _ _ _ (Int.natCast_pos.mp hr))⟩
  · obtain ⟨hbasis, htarget⟩ := State.control_grade hgrade
    have hD : (t.side x).context.depthTarget = _ := (congrArg PlanContext.depthTarget hcontext).trans htarget
    refine ⟨(congrArg PlanContext.basis hcontext).trans hbasis, fun hinvalid => ?_, fun hvalid => ?_⟩
    · rw [hD, hT, if_neg (by simp [hinvalid])]
    · intro envelope
      have henvelope (m : Mark) : envelope m = s.envelope (s.stage2 x) m.fields := by
        rw [← hT]
        exact (s.envelope_eq_figures T m.fields).symm
      rw [hD, hT, if_pos hvalid]
      simp only [henvelope]
      exact s.underEnvelopes_stage2 x

end Sys2Proof.Machine
end

section
/-! Proofs for `Obligations.SideIntervalsInAuto` (R49, R97, R113 to R115, R132, R133): what a target computation
leaves alone, the loop of a side after its interval in AUTO, and its error, demand and settle sequence. -/
namespace Sys2Proof.Machine

/-! ### What a target computation leaves alone (R49, R71) -/

section
variable (x : Side) (s : State)

@[simp] theorem State.computeTarget_station : (s.computeTarget x).station = s.station := by simp [State.computeTarget]
@[simp] theorem State.computeTarget_monitor : (s.computeTarget x).monitor = s.monitor := by simp [State.computeTarget]
@[simp] theorem State.computeTarget_banks : (s.computeTarget x).banks = s.banks := by simp [State.computeTarget]
@[simp] theorem State.computeTarget_governor : (s.computeTarget x).governor = s.governor := by simp [State.computeTarget]
@[simp] theorem State.computeTarget_conveyor : (s.computeTarget x).conveyor = s.conveyor := by simp [State.computeTarget]
@[simp] theorem State.computeTarget_link : (s.computeTarget x).link = s.link := by simp [State.computeTarget]
@[simp] theorem State.computeTarget_sensorLink : (s.computeTarget x).sensorLink = s.sensorLink := by simp [State.computeTarget]
@[simp] theorem State.computeTarget_timers : (s.computeTarget x).timers = s.timers := by simp [State.computeTarget]
@[simp] theorem State.computeTarget_heldReset : (s.computeTarget x).heldReset = s.heldReset := by simp [State.computeTarget]

@[simp] theorem State.computeTarget_activeBank : (s.computeTarget x).activeBank = s.activeBank := by
  simp [State.activeBank, State.bank]

@[simp] theorem State.computeTarget_measuredDepth (y : Side) : (s.computeTarget x).measuredDepth y = s.measuredDepth y := by
  simp [State.measuredDepth, State.roleChannel, State.channel]

@[simp] theorem State.computeTarget_crossSlope : (s.computeTarget x).crossSlope = s.crossSlope := by
  simp [State.crossSlope, State.roleChannel, State.channel]

theorem State.computeTarget_other : (s.computeTarget x).side (otherSide x) = s.side (otherSide x) := by
  cases x <;> simp [State.computeTarget, State.side, otherSide, State.setContext, State.setSide]

theorem State.raiseNotice_notice_ne {n k : Notice} (h : k ≠ n) : (s.raiseNotice n).notice k = s.notice k := by
  rw [State.raiseNotice, State.updateAlert_notice, State.setNotice_notice_ne _ h]

theorem State.raiseTimes_notice_ne {n k : Notice} (h : k ≠ n) (count : Nat) :
    (s.raiseTimes n count).notice k = s.notice k := by
  induction count generalizing s with
  | zero => rfl
  | succ count ih => rw [State.raiseTimes, ih, State.raiseNotice_notice_ne s h]

/-- A computation raises no notice but MARK_AHEAD. -/
theorem State.computeTarget_notice_ne {k : Notice} (h : k ≠ .markAhead) : (s.computeTarget x).notice k = s.notice k := by
  rw [State.computeTarget, State.raiseTimes_notice_ne _ h]
  exact State.setContext_notice ..

theorem State.markAfter_number (dref : Int) (m : Mark) : (s.markAfter x dref m).number = m.number := by
  unfold State.markAfter
  cases x <;> dsimp only <;> split <;> rfl

theorem State.markAfter_fields (dref : Int) (m : Mark) : (s.markAfter x dref m).fields = m.fields := by
  unfold State.markAfter
  cases x <;> dsimp only <;> split <;> rfl

end

/-! ### The loop of a side after its interval in AUTO (R97) -/

/-- The loop an interval in AUTO leaves: the context of the computation, the demand driven from its error, and
the settle sequence restarted where the computation asked for it, else counted. -/
def State.loopAfter (x : Side) (s : State) : SideLoop :=
  let d := s.side x
  let b := s.activeBank
  { d with
    context := s.contextAfter x
    demand := b.shape d.demand (rawDemand (b.gainOf d.settle) (pastDeadBand b.deadBand ((s.computeTarget x).loopError x)))
    settle := if (s.control x).restart then b.firstStep s.station.speed [0, 1, 2]
      else d.settle.counted b s.station.speed }

/-- Past the computation an interval in AUTO writes the side's own loop and nothing else. -/
theorem State.autoInterval_eq (x : Side) (s : State) :
    s.autoInterval x = (s.computeTarget x).setSide x (s.loopAfter x) := by
  simp only [State.autoInterval, State.drive, State.countSettle, State.restartSettle, State.setSide_side_same,
    State.setSide_setSide, State.setSide_activeBank, State.setSide_station, State.computeTarget_side,
    State.computeTarget_activeBank, State.computeTarget_station, State.loopAfter]
  split <;> rfl

theorem State.autoInterval_side (x : Side) (s : State) : (s.autoInterval x).side x = s.loopAfter x := by
  rw [State.autoInterval_eq, State.setSide_side_same]

theorem State.autoInterval_other (x : Side) (s : State) :
    (s.autoInterval x).side (otherSide x) = s.side (otherSide x) := by
  rw [State.autoInterval_eq, State.setSide_side_other, State.computeTarget_other]

theorem State.autoInterval_plan (x : Side) (s : State) :
    (s.autoInterval x).plan = { s.plan with marks := s.plan.marks.map (s.markAfter x (s.referenceDepth x)) } := by
  rw [State.autoInterval_eq, State.setSide_plan, State.computeTarget_plan]

theorem State.autoInterval_notice_ne (x : Side) (s : State) {k : Notice} (h : k ≠ .markAhead) :
    (s.autoInterval x).notice k = s.notice k := by
  rw [State.autoInterval_eq, State.setSide_notice, State.computeTarget_notice_ne x s h]

/-! ### Error and demand (R113, R114, R115) -/

theorem State.computeTarget_context (x : Side) (s : State) :
    ((s.computeTarget x).side x).context = s.contextAfter x := by rw [State.computeTarget_side]

/-- Against depth the error is taken from the depth target just computed. -/
theorem State.computedError_depth {x : Side} {s : State} {m : Int} (hbasis : (s.contextAfter x).basis = .depth)
    (hm : s.measuredDepth x = some m) : (s.computeTarget x).loopError x = (s.contextAfter x).depthTarget - m := by
  simp only [State.loopError, State.computeTarget_context, State.computeTarget_measuredDepth, hbasis, hm]

/-- Against slope it is the height across the drum, of opposite signs on the two sides. -/
theorem State.computedError_slope {x : Side} {s : State} {v : Int} (hbasis : (s.contextAfter x).basis = .slope)
    (hv : s.crossSlope = some v) :
    let h := (((s.contextAfter x).slopeTarget - v) * (Config.drumWidth s.station.drumClass : Int)).tdiv 1000
    (s.computeTarget x).loopError x = if x = .right then h else -h := by
  simp only [State.loopError, State.computeTarget_context, State.computeTarget_crossSlope,
    State.computeTarget_station, hbasis, hv]
  cases x <;> rfl

theorem pastDeadBand_eq (db : Nat) (e : Int) : pastDeadBand db e =
    if (db : Int) < e then e - db else if e < -(db : Int) then e + db else 0 := by
  unfold pastDeadBand
  split
  · rw [if_neg (by omega), if_neg (by omega)]
  · split
    · rfl
    · rw [if_pos (by omega)]

/-- The demand left is the raw demand of the computation's error, for every `e` that the error is. -/
theorem State.loopAfter_demand {x : Side} {s : State} {e : Int} (he : (s.computeTarget x).loopError x = e) :
    (s.loopAfter x).demand = s.activeBank.shape (s.side x).demand
      (rawDemand (s.activeBank.gainOf (s.side x).settle) (pastDeadBand s.activeBank.deadBand e)) := by
  rw [State.loopAfter, he]

/-! ### The settle sequence (R131, R132, R133) -/

theorem stepsAfter_eq (k : Fin 3) : stepsAfter k = if k = 0 then [1, 2] else if k = 1 then [2] else [] :=
  match k with
  | 0 => rfl
  | 1 => rfl
  | 2 => rfl

/-- A computation asks for a restart exactly where it begins or ends an override. -/
theorem State.control_restart (x : Side) (s : State) : (s.control x).restart = true ↔
    ¬((s.side x).context.override ≠ none ↔ (s.control x).override ≠ none) := by
  cases hmode : (s.side x).mode with
  | grade => simp [State.control, hmode]
  | slope =>
    cases hoverride : (s.side x).context.override <;> cases hnear : s.markNear x (s.referenceDepth x) <;>
      simp [State.control, hmode, hoverride, hnear]

theorem State.loopAfter_settle_counted {x : Side} {s : State}
    (h : (s.side x).context.override ≠ none ↔ (s.loopAfter x).context.override ≠ none) :
    (s.loopAfter x).settle = (s.side x).settle.counted s.activeBank s.station.speed :=
  if_neg fun hrestart => (s.control_restart x).mp hrestart h

theorem State.loopAfter_settle_restarted {x : Side} {s : State}
    (h : ¬((s.side x).context.override ≠ none ↔ (s.loopAfter x).context.override ≠ none)) :
    (s.loopAfter x).settle = s.activeBank.firstStep s.station.speed [0, 1, 2] :=
  if_pos ((s.control_restart x).mpr h)

/-- Settles O35: the loop left is `State.loopAfter` and the rest is what the computation leaves; the error is read
off the recorded context, and the settle sequence restarts where the override began or ended. -/
theorem sideIntervalsInAuto : Obligations.SideIntervalsInAuto := by
  intro x s m hrun hauto hm _ d b restarted
  refine ⟨_, exec_sideIntervalExpiry_auto hrun hauto, ?_⟩
  have htimers : ((s.autoInterval x).nextSidePeriod x).timers = restarted s.timers := by
    cases x <;> simp [State.autoInterval_eq, State.nextSidePeriod, restarted, Config.sideIntervalMs]
  rw [State.nextSidePeriod_side, State.autoInterval_side, State.nextSidePeriod_side, State.autoInterval_other,
    State.nextSidePeriod_plan, State.autoInterval_plan, htimers]
  refine ⟨hauto, rfl, rfl, rfl, rfl, rfl, rfl, rfl, rfl, rfl, rfl, ?station, ?monitor, ?banks, ?governor, ?conveyor,
    ?link, ?sensorLink, rfl, ?heldReset, rfl, rfl, ?markNumbers, ?markFields, ?notices, ?demand, ?counted, ?restarted⟩
  case station | monitor | banks | governor | conveyor | link | sensorLink | heldReset =>
    simp [State.autoInterval_eq]
  case markNumbers => simp [State.markAfter_number]
  case markFields => simp [State.markAfter_fields]
  case notices =>
    intro n hn
    rw [← s.autoInterval_notice_ne x hn, State.notice, State.nextSidePeriod_notices, State.notice]
  case demand =>
    intro c e hdepth hslope hpresent past gain raw v
    have hgain : b.gainOf d.settle = gain := by
      subst gain
      cases d.settle with
      | abandoned => rfl
      | settling k dwell =>
        match k with
        | 0 => rfl
        | 1 => rfl
        | 2 => rfl
      | tracking => rfl
    have herror : (s.computeTarget x).loopError x = e := by
      cases hbasis : c.basis with
      | depth => exact (State.computedError_depth hbasis hm).trans (hdepth hbasis).symm
      | slope =>
        obtain ⟨r, hr⟩ := Option.ne_none_iff_exists'.mp (hpresent hbasis)
        rw [State.computedError_slope hbasis hr, hslope hbasis r hr]
        cases x <;> rfl
    calc (s.loopAfter x).demand
      _ = b.shape d.demand (rawDemand (b.gainOf d.settle) (pastDeadBand b.deadBand e)) :=
        State.loopAfter_demand herror
      _ = b.shape d.demand (rawDemand gain past) := by rw [hgain, pastDeadBand_eq]
  case counted =>
    intro h
    have hcounted : (s.loopAfter x).settle = d.settle.counted b s.station.speed := State.loopAfter_settle_counted h
    rw [hcounted]
    cases d.settle with
    | abandoned => rfl
    | settling k dwell => rw [Settle.counted, stepsAfter_eq]; rfl
    | tracking => rfl
  case restarted => exact State.loopAfter_settle_restarted

end Sys2Proof.Machine
end

section
/-! Proofs for `Obligations.GovernorIntervalsFormTheCeiling` (R138, R139, R140, R144, R145): the in-cut judgment,
the smallest present source and the first that has its value, and the ceiling message of a governor interval. -/
namespace Sys2Proof.Machine

/-! ### The in-cut judgment (R140) -/

/-- One measured depth at or past the threshold is enough, whatever the other side gives. -/
theorem State.judgeInCut_of_threshold_le {s : State} {x : Side} {d : Int} (before : Bool)
    (hx : s.measuredDepth x = some d) (hd : s.station.geometry.inCutThreshold ≤ d) : s.judgeInCut before = true := by
  cases x with
  | left => cases hr : s.measuredDepth .right <;> simp [State.judgeInCut, inCutAfter, hx, hr, hd]
  | right => cases hl : s.measuredDepth .left <;> simp [State.judgeInCut, inCutAfter, hx, hl, hd]

theorem State.judgeInCut_of_lt_threshold {s : State} (before : Bool) (hsome : ∃ x, s.measuredDepth x ≠ none)
    (hlt : ∀ x d, s.measuredDepth x = some d → d < s.station.geometry.inCutThreshold) :
    s.judgeInCut before = false := by
  cases hl : s.measuredDepth .left with
  | some a =>
    have ha := hlt .left a hl
    cases hr : s.measuredDepth .right with
    | some b =>
      have hb := hlt .right b hr
      simp [State.judgeInCut, inCutAfter, hl, hr, ha, hb]
    | none => simp [State.judgeInCut, inCutAfter, hl, hr, ha]
  | none =>
    cases hr : s.measuredDepth .right with
    | some b =>
      have hb := hlt .right b hr
      simp [State.judgeInCut, inCutAfter, hl, hr, hb]
    | none =>
      obtain ⟨x, hx⟩ := hsome
      cases x with
      | left => exact absurd hl hx
      | right => exact absurd hr hx

theorem State.judgeInCut_of_unmeasured {s : State} (before : Bool) (h : ∀ x, s.measuredDepth x = none) :
    s.judgeInCut before = before := by
  simp only [State.judgeInCut, h, inCutAfter]

/-! ### The smallest source and its reason (R139) -/

/-- `best` is the smallest value present among the sources, with the lowest reason that has it (R139). -/
structure IsFirstLeast (sources : List (Reason × Option Nat)) (best : Nat × Reason) : Prop where
  present : (best.2, some best.1) ∈ sources
  least : ∀ k c, (k, some c) ∈ sources → best.1 ≤ c
  first : ∀ k c, (k, some c) ∈ sources → k.code < best.2.code → best.1 < c

theorem IsFirstLeast.singleton (k : Reason) (c : Nat) : IsFirstLeast [(k, some c)] (c, k) where
  present := List.mem_singleton_self _
  least := by simp
  first := by simp +contextual

/-- A source that is not present leaves the minimum as it is. -/
theorem IsFirstLeast.append_absent {seen : List (Reason × Option Nat)} {best : Nat × Reason}
    (h : IsFirstLeast seen best) (k : Reason) : IsFirstLeast (seen ++ [(k, none)]) best where
  present := List.mem_append_left _ h.present
  least := by simpa using h.least
  first := by simpa using h.first

/-- A source strictly below all before it is the new minimum. -/
theorem IsFirstLeast.append_smaller {seen : List (Reason × Option Nat)} {best : Nat × Reason}
    (h : IsFirstLeast seen best) {k : Reason} {v : Nat} (hv : v < best.1) :
    IsFirstLeast (seen ++ [(k, some v)]) (v, k) := by
  have hseen : ∀ j c, (j, some c) ∈ seen → v < c := fun j c hj => Nat.lt_of_lt_of_le hv (h.least j c hj)
  refine ⟨List.mem_append_right _ (List.mem_singleton_self _), fun j c hj => ?_, fun j c hj hcode => ?_⟩
  · obtain hj | hj := List.mem_append.mp hj
    · exact Nat.le_of_lt (hseen j c hj)
    · cases List.mem_singleton.mp hj
      exact Nat.le_refl _
  · obtain hj | hj := List.mem_append.mp hj
    · exact hseen j c hj
    · cases List.mem_singleton.mp hj
      exact absurd hcode (Nat.lt_irrefl _)

/-- A source not below the minimum leaves it; on a tie the reason stays the earlier one. -/
theorem IsFirstLeast.append_notSmaller {seen : List (Reason × Option Nat)} {best : Nat × Reason}
    (h : IsFirstLeast seen best) {k : Reason} {v : Nat} (hv : best.1 ≤ v) (hcode : best.2.code < k.code) :
    IsFirstLeast (seen ++ [(k, some v)]) best := by
  refine ⟨List.mem_append_left _ h.present, fun j c hj => ?_, fun j c hj hlt => ?_⟩
  · obtain hj | hj := List.mem_append.mp hj
    · exact h.least j c hj
    · cases List.mem_singleton.mp hj
      exact hv
  · obtain hj | hj := List.mem_append.mp hj
    · exact h.first j c hj hlt
    · cases List.mem_singleton.mp hj
      exact absurd hlt (Nat.lt_asymm hcode)

/-- Taking in a source whose reason comes after those before it. -/
theorem IsFirstLeast.append_takeSource {seen : List (Reason × Option Nat)} {best : Nat × Reason} {src : Reason × Option Nat}
    (h : IsFirstLeast seen best) (hlast : ∀ p ∈ seen, p.1.code < src.1.code) :
    IsFirstLeast (seen ++ [src]) (takeSource best src) := by
  obtain ⟨k, _ | v⟩ := src
  · exact h.append_absent k
  · unfold takeSource
    dsimp only
    split
    · exact h.append_smaller ‹_›
    · exact h.append_notSmaller (Nat.not_lt.mp ‹_›) (hlast _ h.present)

/-- Taking in sources whose reasons come in increasing order. -/
theorem IsFirstLeast.foldl_takeSource {rest : List (Reason × Option Nat)} :
    ∀ {seen : List (Reason × Option Nat)} {best : Nat × Reason}, IsFirstLeast seen best →
      (seen ++ rest).Pairwise (fun p q => p.1.code < q.1.code) →
      IsFirstLeast (seen ++ rest) (rest.foldl takeSource best) := by
  induction rest with
  | nil => intro seen best h _; simpa using h
  | cons src rest ih =>
    intro seen best h hsorted
    have hlast : ∀ p ∈ seen, p.1.code < src.1.code := fun p hp =>
      (List.pairwise_append.mp hsorted).2.2 p hp src List.mem_cons_self
    rw [List.append_cons] at hsorted ⊢
    exact ih (h.append_takeSource hlast) hsorted

/-! ### The sources of a state (R138) -/

/-- The value of each source while it is present; RESET names none. -/
def State.sourceValue (inCut : Bool) (s : State) : Reason → Option Nat
  | .reset => none
  | .operator => some s.governor.cap
  | .zone => s.governingZone.bind (fun z => z.fields.cap)
  | .load => some (loadLimit s.governor.cap s.governor.reduction)
  | .profile => s.profileOffer
  | .fill => stopWhile s.conveyor.fillLatch
  | .freeze => stopWhile (s.sideFrozen && inCut)
  | .belt => stopWhile (s.conveyor.state = .blocked)
  | .link => stopWhile s.link.linkLoss
  | .reference => stopWhile (s.left.state = .referencing || s.right.state = .referencing)

/-- The reasons that name a source, in the order of R138. -/
def Reason.ofSources : List Reason :=
  [.operator, .zone, .load, .profile, .fill, .freeze, .belt, .link, .reference]

theorem State.sources_eq_map (inCut : Bool) (s : State) :
    s.sources inCut = Reason.ofSources.map (fun k => (k, s.sourceValue inCut k)) := rfl

theorem State.mem_sources {inCut : Bool} {s : State} {k : Reason} {c : Nat} :
    (k, some c) ∈ s.sources inCut ↔ s.sourceValue inCut k = some c := by
  rw [State.sources_eq_map]
  cases k <;> simp [Reason.ofSources, State.sourceValue, eq_comm]

theorem State.sources_sorted (inCut : Bool) (s : State) :
    (s.sources inCut).Pairwise (fun p q => p.1.code < q.1.code) := by
  have hreasons : Reason.ofSources.Pairwise (fun j k => j.code < k.code) := by decide
  rw [State.sources_eq_map]
  exact List.pairwise_map.mpr hreasons

/-- OPERATOR stands first and is always present, so the minimum begins there. -/
theorem State.ceilingOf_isFirstLeast (inCut : Bool) (s : State) :
    IsFirstLeast (s.sources inCut) (ceilingOf s.governor.cap (s.sources inCut)) := by
  have hsorted := s.sources_sorted inCut
  obtain ⟨rest, hrest⟩ : ∃ rest, s.sources inCut = [(Reason.operator, some s.governor.cap)] ++ rest := ⟨_, rfl⟩
  have hstart : takeSource (s.governor.cap, .operator) (.operator, some s.governor.cap) =
      (s.governor.cap, .operator) := if_neg (Nat.lt_irrefl _)
  rw [hrest] at hsorted ⊢
  rw [ceilingOf, List.foldl_append, List.foldl_cons, List.foldl_nil, hstart]
  exact (IsFirstLeast.singleton _ _).foldl_takeSource hsorted

theorem minLimit_eq (l r : Option Nat) : minLimit l r = match l, r with
    | some a, some b => some (if a ≤ b then a else b)
    | some a, none => some a
    | none, b => b := by
  cases l <;> cases r <;> rfl

/-! ### The interval and its message (R138, R144, R145) -/

theorem byteOf_eq (v : Nat) : byteOf v = [BitVec.ofNat 8 v] := by
  simp [byteOf, beBytes]

theorem ceilingBytes_eq (ceiling : Nat) (reason : Reason) (count : Byte) :
    ceilingBytes ceiling reason count = beBytes 2 ceiling ++ [BitVec.ofNat 8 reason.code, count] := by
  rw [ceilingBytes, byteOf_eq, List.append_assoc, List.singleton_append]

theorem exec_governorIntervalExpiry {s : State} (hrun : s.heldReset = none) :
    exec .governorIntervalExpiry s = .next { s.governorInterval with timers.governor := 50 } :=
  congrArg Host.Outcome.next (State.whileRunning_running hrun)

/-- Settles O44: the judgment, the minimum and the message are those of `State.governorInterval`, whose sources are
`State.sourceValue` in the order of their reasons. -/
theorem governorIntervalsFormTheCeiling : Obligations.GovernorIntervalsFormTheCeiling := by
  intro s hrun
  let inCut := s.judgeInCut s.governor.inCut
  obtain ⟨hpresent, hleast, hfirst⟩ := s.ceilingOf_isFirstLeast inCut
  refine ⟨inCut, (ceilingOf s.governor.cap (s.sources inCut)).1, (ceilingOf s.governor.cap (s.sources inCut)).2,
    ?_, State.judgeInCut_of_lt_threshold _, State.judgeInCut_of_unmeasured _, ?_⟩
  · rintro ⟨x, d, hx, hd⟩
    exact State.judgeInCut_of_threshold_le _ hx hd
  · intro stop value
    have hvalue : value = s.sourceValue inCut := by
      funext k
      cases k with
      | profile => exact (minLimit_eq _ _).symm
      | _ => rfl
    rw [hvalue, exec_governorIntervalExpiry hrun, ← ceilingBytes_eq]
    simp only [State.mem_sources] at hpresent hleast hfirst
    exact ⟨hpresent, hleast, hfirst, rfl⟩

end Sys2Proof.Machine
end

section
/-! Proofs for `Obligations.LoadWindowsMoveTheReduction` (R146 to R149): the rows of the window load, the notice
each raises, and the state a load window leaves. -/
namespace Sys2Proof.Machine

/-! ### The rows of the window load (R147, R148) -/

section
variable {w : Int} {θ : Nat} (r count : Nat)

theorem afterWindow_stall (h : 98 ≤ w) : afterWindow w θ r count = (100, 0) := if_pos h

theorem not_stallLoad_le (hstall : w < 98) : ¬ (Config.stallLoad : Int) ≤ w := Int.not_le.mpr hstall

theorem afterWindow_high (hstall : w < 98) (h : θ ≤ w) : afterWindow w θ r count = (stepUp r, 0) := by
  rw [afterWindow, if_neg (not_stallLoad_le hstall), if_pos h]

theorem afterWindow_between (hstall : w < 98) (hlow : w < θ) (h : (θ : Int) - 5 ≤ w) :
    afterWindow w θ r count = (r, 0) := by
  rw [afterWindow, if_neg (not_stallLoad_le hstall), if_neg (Int.not_le.mpr hlow), if_pos h]

theorem afterWindow_below (hstall : w < 98) (h : w < (θ : Int) - 5) :
    afterWindow w θ r count = if count = 0 then (r, 1) else (stepDown r, 0) := by
  have hlow : w < θ := by omega
  rw [afterWindow, if_neg (not_stallLoad_le hstall), if_neg (Int.not_le.mpr hlow), if_neg (Int.not_le.mpr h)]

/-- STALL_GUARD at a stall from below 100, LOAD_HIGH at a step from 0, else none (R149). -/
theorem windowNotice_eq : windowNotice w θ r =
    if 98 ≤ w ∧ r < 100 then some .stallGuard else if w < 98 ∧ θ ≤ w ∧ r = 0 then some .loadHigh else none := by
  unfold windowNotice
  by_cases hstall : 98 ≤ w
  · have hnot : ¬ w < 98 := Int.not_lt.mpr hstall
    simp [Config.stallLoad, hstall, hnot]
  · have hlt : w < 98 := Int.not_le.mp hstall
    simp [Config.stallLoad, hstall, hlt]

end

/-! ### The steps of the reduction (R147, R148) -/

theorem stepUp_of_le {r : Nat} (h : r ≤ 60) : stepUp r = r + 10 := if_pos (by omega)

theorem stepUp_of_top {r : Nat} (h : r = 70 ∨ r = 100) : stepUp r = 70 := if_neg (by omega)

theorem stepDown_of_ne {r : Nat} (h : r ≠ 100) : stepDown r = r - 10 := if_neg h

/-! ### The window (R146) -/

theorem exec_loadWindowExpiry {s : State} (hrun : s.heldReset = none) :
    exec .loadWindowExpiry s = .next { s.loadWindow with timers.loadWindow := 500 } :=
  congrArg Host.Outcome.next (State.whileRunning_running hrun)

/-- A judged window writes the reduction and the count, and raises the notice of its row. -/
theorem exec_loadWindowExpiry_judged {s : State} {w : Int} (hrun : s.heldReset = none) (hload : s.drumLoad = some w) :
    let out := afterWindow w s.activeBank.loadThreshold s.governor.reduction s.governor.belowCount
    let t : State := { s with
      governor := { s.governor with reduction := out.1, belowCount := out.2 }
      timers.loadWindow := 500 }
    exec .loadWindowExpiry s = .next (match windowNotice w s.activeBank.loadThreshold s.governor.reduction with
      | some n => t.raiseNotice n
      | none => t) := by
  intro out t
  rw [exec_loadWindowExpiry hrun]
  simp only [State.loadWindow, hload]
  cases windowNotice w s.activeBank.loadThreshold s.governor.reduction <;> rfl

/-- Settles O45: the reduction and the count are `afterWindow`'s, read off row by row, and the notice is
`windowNotice`'s. -/
theorem loadWindowsMoveTheReduction : Obligations.LoadWindowsMoveTheReduction := by
  intro s hrun
  refine ⟨fun hnone => ?_, fun w hload _ => ?_⟩
  · rw [exec_loadWindowExpiry hrun, State.loadWindow, hnone]
  · intro θ red below
    refine ⟨(afterWindow w s.activeBank.loadThreshold red below).1,
      (afterWindow w s.activeBank.loadThreshold red below).2, ?stall, ?high, ?between, ?firstBelow, ?secondBelow, ?_⟩
    case stall =>
      intro h
      rw [afterWindow_stall _ _ h]
      exact ⟨rfl, rfl⟩
    case high =>
      intro hstall h
      rw [afterWindow_high _ _ hstall h]
      exact ⟨rfl, stepUp_of_le, stepUp_of_top⟩
    case between =>
      intro hstall hlow h
      rw [afterWindow_between _ _ hstall hlow h]
      exact ⟨rfl, rfl⟩
    case firstBelow =>
      intro hstall h hcount
      rw [afterWindow_below _ _ hstall h, if_pos hcount]
      exact ⟨rfl, rfl⟩
    case secondBelow =>
      intro hstall h hcount
      rw [afterWindow_below _ _ hstall h, if_neg (by omega)]
      refine ⟨rfl, fun hr => if_pos hr, fun hten hseventy => ?_, fun hzero => ?_⟩
      · rw [stepDown_of_ne (by omega)]
        omega
      · rw [stepDown_of_ne (by omega)]
        omega
    · intro t
      rw [exec_loadWindowExpiry_judged hrun hload, windowNotice_eq]
      by_cases hguard : 98 ≤ w ∧ red < 100
      · rw [if_pos hguard, if_pos hguard]
      · rw [if_neg hguard, if_neg hguard]
        by_cases hhigh : w < 98 ∧ θ ≤ w ∧ red = 0
        · rw [if_pos hhigh, if_pos hhigh]
        · rw [if_neg hhigh, if_neg hhigh]

end Sys2Proof.Machine
end

section
/-! Proofs for `Obligations.NoticesLatchCountAndAlert` (R178, R179, R180): the alert line over the nineteen notices,
and a change of one notice. -/
namespace Sys2Proof.Machine

/-! ### The alert line (R180) -/

/-- The notices in the order of their numbers (the table of Chapter 9). -/
def Notice.inOrder : List Notice :=
  [.coldStart, .warmRestart, .zoneEntered, .planGap, .markAhead, .stationInvalid, .sensorLost, .sideFrozen,
    .referenceDone, .referenceFailed, .loadHigh, .stallGuard, .fillHigh, .truckFull, .beltBlocked, .linkLost,
    .depthClipped, .spill, .requestOverrun]

theorem Notice.map_number_inOrder : Notice.inOrder.map Notice.number = List.finRange 19 := by decide

/-- The nineteen numbers all name a notice. -/
theorem Notice.exists_number_eq (k : Fin 19) : ∃ n : Notice, n.number = k := by
  have hk : k ∈ Notice.inOrder.map Notice.number := Notice.map_number_inOrder ▸ List.mem_finRange k
  obtain ⟨n, -, hn⟩ := List.mem_map.mp hk
  exact ⟨n, hn⟩

/-- The records of a state are those of the notices. -/
theorem State.mem_records_iff {s : State} {r : NoticeRecord} :
    r ∈ s.notices.records.toList ↔ ∃ n, s.notice n = r := by
  rw [Vector.mem_toList_iff, Vector.mem_iff_getElem]
  constructor
  · rintro ⟨k, hk, hr⟩
    obtain ⟨n, hn⟩ := Notice.exists_number_eq ⟨k, hk⟩
    exact ⟨n, by simp only [State.notice, hn, hr]⟩
  · rintro ⟨n, hn⟩
    exact ⟨n.number, n.number.isLt, hn⟩

/-- ALERTn stands as the latches and masks have it (R180): low exactly while some unmasked latch is set. -/
def State.AlertFollows (s : State) : Prop :=
  s.notices.alertLow = true ↔ ∃ n : Notice, (s.notice n).latch = true ∧ (s.notice n).masked = false

theorem State.updateAlert_alertFollows (s : State) : s.updateAlert.AlertFollows := by
  have hdue : s.updateAlert.notices.alertLow = alertDue s.updateAlert.notices.records := rfl
  rw [State.AlertFollows, hdue, alertDue_iff]
  constructor
  · rintro ⟨r, hr, hset⟩
    obtain ⟨n, rfl⟩ := State.mem_records_iff.mp hr
    exact ⟨n, hset⟩
  · rintro ⟨n, hset⟩
    exact ⟨_, State.mem_records_iff.mpr ⟨n, rfl⟩, hset⟩

/-! ### One notice (R178, R179) -/

/-- `t` is `s` with the record of the notice `n` become `v`, the alert line aside. -/
structure State.MovesOnly (s : State) (n : Notice) (v : NoticeRecord) (t : State) : Prop where
  moved : t.notice n = v
  others : ∀ k, k ≠ n → t.notice k = s.notice k
  rest : { t with notices := s.notices } = s

theorem State.setNotice_movesOnly (s : State) (n : Notice) (v : NoticeRecord) : s.MovesOnly n v (s.setNotice n v) where
  moved := s.setNotice_notice_same n v
  others _ h := s.setNotice_notice_ne h v
  rest := rfl

theorem State.MovesOnly.updateAlert {s t : State} {n : Notice} {v : NoticeRecord} (h : s.MovesOnly n v t) :
    s.MovesOnly n v t.updateAlert := ⟨h.moved, h.others, h.rest⟩

/-- A cause that was absent begins. -/
theorem State.tellCause_begins {n : Notice} {s : State} (h : (s.notice n).cause = false) :
    s.tellCause n true = (s.setNotice n { s.notice n with
      latch := true, cause := true, count := (s.notice n).count + 1 }).updateAlert := by
  simpa [h] using s.tellCause_cases n true

/-- A cause that is present is not begun again. -/
theorem State.tellCause_stands {n : Notice} {s : State} (h : (s.notice n).cause = true) : s.tellCause n true = s := by
  simpa [h] using s.tellCause_cases n true

/-- Settles O50: raising a notice and telling a cause write one record, and the alert line is evaluated after a
latch is set. -/
theorem noticesLatchCountAndAlert : Obligations.NoticesLatchCountAndAlert := by
  intro n s r only alert
  have only_of {t : State} {v : NoticeRecord} (h : s.MovesOnly n v t) : only t v := ⟨h.moved, h.others, h.rest⟩
  refine ⟨only_of (s.setNotice_movesOnly n _).updateAlert, State.updateAlert_alertFollows _, fun habsent => ?_,
    State.tellCause_stands, only_of (s.setNotice_movesOnly n _), rfl⟩
  rw [State.tellCause_begins habsent]
  exact ⟨only_of (s.setNotice_movesOnly n _).updateAlert, State.updateAlert_alertFollows _⟩

end Sys2Proof.Machine
end

section
/-! Proofs for `Obligations.NoticesAreAcknowledgedAndMasked` (R182, R183, R199): the three bytes of a notice set, and
a change of all the notices by their numbers. -/
namespace Sys2Proof.Machine

/-! ### The value of bytes (R199) -/

/-- The last byte of a value is its lowest. -/
theorem beBytes_succ_eq_append (k v : Nat) : beBytes (k + 1) v = beBytes k (v / 256) ++ [BitVec.ofNat 8 v] := by
  induction k with
  | zero => simp [beBytes]
  | succ k ih =>
    have hhead : v / 256 ^ (k + 1) = v / 256 / 256 ^ k := by rw [Nat.div_div_eq_div_mul, Nat.pow_succ']
    rw [beBytes, ih, hhead]
    rfl

theorem beNat_beBytes {k v : Nat} (h : v < 256 ^ k) : beNat (beBytes k v) = v := by
  induction k generalizing v with
  | zero => rw [Nat.lt_one_iff.mp h]; rfl
  | succ k ih =>
    have hhigh : v / 256 < 256 ^ k := Nat.div_lt_of_lt_mul (by rwa [Nat.pow_succ'] at h)
    rw [beBytes_succ_eq_append, beNat_append_one, ih hhigh, BitVec.toNat_ofNat]
    omega

/-! ### Notice sets (R199) -/

theorem noticeSetOf_outOfRange {p : List Byte} (h : 2 ^ 19 ≤ fieldAt p 0 3) : noticeSetOf p = none :=
  if_neg (Nat.not_lt.mpr h)

theorem noticeSetOf_inRange {p : List Byte} (h : fieldAt p 0 3 < 2 ^ 19) :
    noticeSetOf p = some (fieldAt p 0 3).testBit := if_pos h

/-- The number whose bit `k` is the `k`-th of `bits`. -/
def bitsValue (bits : List Bool) : Nat := bits.foldr (fun b acc => (if b then 1 else 0) + 2 * acc) 0

theorem bitsValue_cons (b : Bool) (bits : List Bool) : bitsValue (b :: bits) = b.toNat + 2 * bitsValue bits := by
  cases b <;> rfl

theorem bitsValue_testBit (bits : List Bool) (k : Nat) : (bitsValue bits).testBit k = bits.getD k false := by
  induction bits generalizing k with
  | nil => exact Nat.zero_testBit k
  | cons b bits ih =>
    have hb : b.toNat < 2 := b.toNat_lt
    rw [bitsValue_cons]
    cases k with
    | zero =>
      rw [Nat.testBit_zero, Nat.add_mul_mod_self_left, Nat.mod_eq_of_lt hb]
      cases b <;> rfl
    | succ k =>
      have hhalf : (b.toNat + 2 * bitsValue bits) / 2 = bitsValue bits := by omega
      rw [Nat.testBit_succ, hhalf, ih]
      rfl

theorem bitsValue_lt (bits : List Bool) : bitsValue bits < 2 ^ bits.length := by
  induction bits with
  | nil => exact Nat.one_pos
  | cons b bits ih =>
    have hb : b.toNat < 2 := b.toNat_lt
    rw [bitsValue_cons, List.length_cons, Nat.pow_succ]
    omega

theorem noticeSetBytes_eq (bits : List Bool) : noticeSetBytes bits = beBytes 3 (bitsValue bits) := rfl

/-- The three bytes of a set have room for twenty-four bits. -/
theorem beNat_noticeSetBytes {bits : List Bool} (h : bits.length ≤ 24) :
    beNat (noticeSetBytes bits) = bitsValue bits := by
  have hroom : bitsValue bits < 2 ^ 24 := Nat.lt_of_lt_of_le (bitsValue_lt bits) (Nat.pow_le_pow_right (by decide) h)
  rw [noticeSetBytes_eq, beNat_beBytes hroom]

theorem State.latches_length (s : State) : s.latches.length = 19 := by simp [State.latches]

theorem State.latches_getD (s : State) (n : Notice) : s.latches.getD n.number.val false = (s.notice n).latch := by
  simp [State.latches, State.notice]

theorem State.beNat_latches (s : State) : beNat (noticeSetBytes s.latches) = bitsValue s.latches :=
  beNat_noticeSetBytes (by rw [s.latches_length]; decide)

theorem State.beNat_latches_lt (s : State) : beNat (noticeSetBytes s.latches) < 2 ^ 19 := by
  have hlt := bitsValue_lt s.latches
  rwa [s.latches_length, ← s.beNat_latches] at hlt

theorem State.beNat_latches_testBit (s : State) (n : Notice) :
    (beNat (noticeSetBytes s.latches)).testBit n.number.val = (s.notice n).latch := by
  rw [s.beNat_latches, bitsValue_testBit, s.latches_getD]

/-! ### The requests that rewrite all the notices (R182, R183) -/

/-- Every record rewritten by its number, and the line evaluated. -/
def State.rewriteNotices (f : Nat → NoticeRecord → NoticeRecord) (s : State) : State :=
  ({ s with notices.records := s.notices.records.mapFinIdx (fun k r _ => f k r) } : State).updateAlert

theorem State.rewriteNotices_notice (f : Nat → NoticeRecord → NoticeRecord) (s : State) (n : Notice) :
    (s.rewriteNotices f).notice n = f n.number.val (s.notice n) := by
  simp [State.rewriteNotices, State.notice, State.updateAlert]

theorem acknowledgeNotices_outOfRange {p : List Byte} (h : 2 ^ 19 ≤ fieldAt p 0 3) (s : State) :
    acknowledgeNotices p s = refuse .outOfRange s := by
  simp only [acknowledgeNotices, noticeSetOf_outOfRange h]

theorem acknowledgeNotices_inRange {p : List Byte} (h : fieldAt p 0 3 < 2 ^ 19) (s : State) :
    acknowledgeNotices p s =
      (let t := s.rewriteNotices (acknowledged (fieldAt p 0 3).testBit)
      (t, doneWith (noticeSetBytes t.latches))) := by
  simp only [acknowledgeNotices, noticeSetOf_inRange h, State.rewriteNotices]

theorem setNoticeMask_outOfRange {p : List Byte} (h : 2 ^ 19 ≤ fieldAt p 0 3) (s : State) :
    setNoticeMask p s = refuse .outOfRange s := by
  simp only [setNoticeMask, noticeSetOf_outOfRange h]

theorem setNoticeMask_inRange {p : List Byte} (h : fieldAt p 0 3 < 2 ^ 19) (s : State) :
    setNoticeMask p s = taken (s.rewriteNotices (fun k r => { r with masked := (fieldAt p 0 3).testBit k })) := by
  simp only [setNoticeMask, noticeSetOf_inRange h, State.rewriteNotices]

theorem acknowledged_eq (named : Nat → Bool) (k : Nat) (r : NoticeRecord) :
    acknowledged named k r = { r with latch := if named k then isCondition k && r.cause else r.latch } := by
  unfold acknowledged
  split <;> rfl

theorem isCondition_iff (n : Notice) : isCondition n.number.val = true ↔
    n ∈ [.planGap, .stationInvalid, .sensorLost, .sideFrozen, .fillHigh, .truckFull, .beltBlocked, .linkLost] := by
  cases n <;> decide

theorem Grant.console_admits_of_ne {q : Requester} (h : q ≠ .console) (p : List Byte) :
    Grant.console.admits q p = false := by
  cases q with
  | console => exact absurd rfl h
  | _ => rfl

/-- Settles O49: both requests rewrite every record by its number and evaluate the line; the bytes answered to an
acknowledgement carry the latches it leaves. -/
theorem noticesAreAcknowledgedAndMasked : Obligations.NoticesAreAcknowledgedAndMasked := by
  refine ⟨fun r row s hserved => ⟨fun hout => ?_, fun hin => ?_⟩, isCondition_iff,
    fun r row s hserved => ⟨fun hout => ?_, fun hin => ?_⟩, fun r row s hrow hhead hsized hother => ?_⟩
  · rw [exec_served hserved, requestAct, acknowledgeNotices_outOfRange hout]
    rfl
  · rw [exec_served hserved, requestAct, acknowledgeNotices_inRange hin]
    refine ⟨_, _, rfl, State.updateAlert_alertFollows _, rfl, fun n => ?_, noticeSetBytes_length _,
      State.beNat_latches_lt _, State.beNat_latches_testBit _⟩
    rw [State.rewriteNotices_notice, acknowledged_eq, State.popped_notice]
  · rw [exec_served hserved, requestAct, setNoticeMask_outOfRange hout]
    rfl
  · rw [exec_served hserved, requestAct, setNoticeMask_inRange hin]
    exact ⟨_, rfl, State.updateAlert_alertFollows _, rfl, fun n => State.rewriteNotices_notice _ s.popped n⟩
  · have hgrant : row.grant = .console := by
      cases hrow
      rfl
    have hrefused : row.grant.admits r.requester (r.body.take row.size) = false := by
      rw [hgrant]
      exact Grant.console_admits_of_ne hother _
    rw [exec_judged hrow hhead, judgeRequest_notGranted hsized hrefused]
    rfl

end Sys2Proof.Machine
end

section
/-! What a command can do to a running part, said once: the effects of the requests and of the events, each with the
tests it has passed. The statements about every step go through `exec_cases` and a case split on `Effect`. -/
namespace Sys2Proof.Machine

/-! ### The effects of the commands -/

/-- A bank that is stored, with the demands brought within it where it is active (R127). -/
def State.storeBank (n : BankName) (b : Bank) (s : State) : State :=
  if s.banks.active = n then (s.setBank n b).limitDemands else s.setBank n b

/-- What a command makes of the state of a running part: of a request what its owning block does to the state
without the frame, of an event the whole of it. Each case carries what the tests before it have found. -/
inductive Effect (s : State) : Instr → State → Prop
  | same (i : Instr) : Effect s i s
  -- Chapter 1
  | zoneStored {r : Request} {f : ZoneFields} {n : Nat} (hf : f.inRange = true)
      (hfree : ∀ z ∈ s.plan.zones, z.fields.meets f = false)
      (hn : lowestFree Config.zoneNumbers (s.plan.zones.map Zone.number) = some n) :
      Effect s (.insertZone r) ((s.storeZone ⟨n, f, false, s.isClipped f⟩ s.plan.zones).reevaluate none)
  | zoneAmended {r : Request} {f : ZoneFields} {z : Zone} (hz : z ∈ s.plan.zones) (hf : f.inRange = true)
      (hfree : ∀ y ∈ dropZone z.number s.plan.zones, y.fields.meets f = false) :
      Effect s (.amendZone r) ((s.storeZone ⟨z.number, f, z.suspended, s.isClipped f⟩
        (dropZone z.number s.plan.zones)).reevaluate (some z.number))
  | zoneSuspended {r : Request} {n : Nat} : Effect s (.suspendZone r) ((s.markSuspended n true).reevaluate none)
  | zoneReinstated {r : Request} {n : Nat} : Effect s (.reinstateZone r) ((s.markSuspended n false).reevaluate none)
  | zoneRetired {r : Request} {n : Nat} :
      Effect s (.retireZone r) (({ s with plan.zones := dropZone n s.plan.zones } : State).reevaluate none)
  | planCleared {r : Request} :
      Effect s (.clearPlan r) (({ s with plan.zones := [], plan.marks := [] } : State).reevaluate none)
  | markStored {r : Request} {f : MarkFields} {n : Nat} (hf : f.inRange s.maxDepth = true)
      (hn : lowestFree Config.markNumbers (s.plan.marks.map Mark.number) = some n) :
      Effect s (.insertMark r) { s with plan.marks := insertMarkSorted (freshMark n f) s.plan.marks }
  | markAmended {r : Request} {f : MarkFields} {m : Mark} (hm : m ∈ s.plan.marks) (hf : f.inRange s.maxDepth = true) :
      Effect s (.amendMark r)
        { s with plan.marks := insertMarkSorted (freshMark m.number f) (dropMark m.number s.plan.marks) }
  | markRetired {r : Request} {n : Nat} : Effect s (.retireMark r) { s with plan.marks := dropMark n s.plan.marks }
  -- Chapter 2
  | geometryStored {r : Request} {g : Geometry} (hg : g.inRange = true) : Effect s (.writeGeometry r) (s.storeGeometry g)
  | stationFixed {r : Request} {st : Nat} (hst : st ≤ Config.stationMax) : Effect s (.fixStation r) (s.fixAt st)
  | senseSet {r : Request} {v : Sense} : Effect s (.setTravelSense r) { s with station.sense := v }
  | counted {e : EncoderInput} : Effect s (.encoderCount e)
      (({ s with station := s.station.count e } : State).stationChanged s.station)
  | doubleStepped : Effect s .encoderDoubleStep
      { s with station.phaseA := !s.station.phaseA, station.phaseB := !s.station.phaseB }
  | speedFormed : Effect s .speedWindowExpiry { s with
      station.speed := s.station.accum.tdiv 100, station.accum := 0, timers.speedWindow := Config.speedWindowMs }
  -- Chapter 4
  | channelConfigured {r : Request} {n : Fin 8} {g : ChannelConfig} (hg : configOf (payloadOf 5 r) = some (n, g))
      (hidle : s.channelInUse n = false) (hfit : s.kindUnfit n g.kind = false) (hfree : s.addressTaken n g.address = false) :
      Effect s (.configureChannel r)
        (((s.setChannel n (configuredChannel (s.channel n) g)).handOver n (s.channel n)).tellSensorLost)
  | channelCleared {r : Request} {n : Fin 8} (hidle : s.channelInUse n = false) :
      Effect s (.clearChannel r) (((s.dropRole n).setChannel n emptyChannel).tellSensorLost)
  | roleAssigned {r : Request} {q : Role} {v : Option (Fin 8)} (hfit : s.unfitFor q v = false)
      (hidle : s.roleInUse q = false) : Effect s (.assignRole r) (s.setRole q v).tellSensorLost
  | roleTransferred {r : Request} {q : Role} {n : Fin 8} (hfit : s.unfitFor q (some n) = false)
      (hnew : s.monitor.roles.get q ≠ some n) (huse : s.roleInUse q = true) (hfree : s.roleFixed q = false)
      (hlive : (s.channel n).health = .live) : Effect s (.assignRole r) (s.transfer q n)
  | zeroSet {r : Request} {x : Side} {n : Fin 8} {d : Int} (hx : sideOf (fieldAt (payloadOf 3 r) 0 1) = some x)
      (hrole : s.monitor.roles.get (gradeRole x) = some n) :
      Effect s (.setZero r) (s.setChannel n { s.channel n with zero := some d })
  | readingTaken {f : CanFrame} {g : Reading} : Effect s (.readingMessage f) (s.takeReading g)
  | freshnessExpired {n : Fin 8} : Effect s (.freshnessExpiry n) (s.expireFreshness n)
  -- Chapters 3, 5 and 6
  | engaged {r : Request} {x : Side} (hx : sideOf (fieldAt (payloadOf 1 r) 0 1) = some x)
      (hstate : (s.side x).state ≠ .referencing ∧ (s.side x).state ≠ .auto) (href : s.isReferenced x = true)
      (hgrade : s.roleLive (gradeRole x) = true)
      (hslope : (s.side x).mode = .slope → s.roleLive .crossSlope = true) : Effect s (.engage r) (s.enterAuto x)
  | disengaged {r : Request} {x : Side} (hx : sideOf (fieldAt (payloadOf 1 r) 0 1) = some x) :
      Effect s (.disengage r) (s.disengageSide x)
  | jogged {r : Request} {x : Side} {dir : Direction} (hx : sideOf (fieldAt (payloadOf 2 r) 0 1) = some x) :
      Effect s (.jog r) ((s.toManual x).startLease x dir)
  | referenceBegun {r : Request} {x : Side} (hx : sideOf (fieldAt (payloadOf 1 r) 0 1) = some x)
      (hstate : (s.side x).state = .idle ∨ (s.side x).state = .manual) (hgrade : s.roleLive (gradeRole x) = true)
      (hload : s.drumTurning = true) : Effect s (.reference r) (s.startReferencing x)
  | modeSet {r : Request} {x : Side} {m : Mode} (hstate : (s.side x).state ≠ .auto ∧ (s.side x).state ≠ .referencing)
      (hother : m = .slope → (s.side (otherSide x)).mode ≠ .slope) :
      Effect s (.setSideMode r) (s.setSide x { s.side x with mode := m })
  | trimSet {r : Request} {x : Side} {v : Int} (hx : sideOf (fieldAt (payloadOf 3 r) 0 1) = some x) :
      Effect s (.setTrim r) (s.setSide x { s.side x with trim := bringWithin (-200) 200 v })
  | sideIntervalEnded {x : Side} : Effect s (.sideIntervalExpiry x) ((s.sideInterval x).nextSidePeriod x)
  | dwellEnded {x : Side} (hdue : s.dwellDue x = true) :
      Effect s (.settleDwellExpiry x) ((s.sideInterval x).nextSidePeriod x)
  | leaseExpired {x : Side} : Effect s (.jogLeaseExpiry x) (s.expireLease x)
  | bankStored {r : Request} {n : BankName} {b : Bank} (hb : b.inRange = true) : Effect s (.writeBank r) (s.storeBank n b)
  -- Chapter 7
  | capSet {r : Request} {p : List Byte} : Effect s (.setAdvanceCap r) (setAdvanceCap p s).1
  | governorIntervalEnded : Effect s .governorIntervalExpiry { s.governorInterval with timers.governor := Config.governorMs }
  | loadWindowEnded : Effect s .loadWindowExpiry { s.loadWindow with timers.loadWindow := Config.loadWindowMs }
  -- Chapter 8
  | beltStarted {r : Request} (hstate : s.conveyor.state = .stopped ∨ s.conveyor.state = .runOn) :
      Effect s (.conveyorStart r) s.startBelt
  | beltRunsOn {r : Request} (hstate : s.conveyor.state = .running) :
      Effect s (.conveyorStop r) (s.mapConveyor (Conveyor.enterRunOn s.station.geometry.runOnTime))
  | beltReleased {r : Request} (hstate : s.conveyor.state = .held) :
      Effect s (.conveyorStop r) (s.mapConveyor (Conveyor.stand .stopped))
  | beltModeTaken {r : Request} {m : BeltMode} {v : Nat} (hv : v = s.conveyor.fixedSpeed ∨
      ∃ w, v = bringWithinNat s.station.geometry.beltMin s.station.geometry.beltMax w) :
      Effect s (.setBeltMode r) (s.takeBeltMode m v)
  | beltHeld {r : Request} (hstate : s.conveyor.state = .running ∨ s.conveyor.state = .runOn) :
      Effect s (.truckAway r) (s.mapConveyor (Conveyor.stand .held))
  | truckReadied {r : Request} : Effect s (.truckReady r) (truckReady [] s).1
  | targetSet {r : Request} {v : Nat} (hv : v ≤ Config.truckTargetMax) : Effect s (.setTruckTarget r)
      ({ s with conveyor.truckTarget := v } : State).tellTruckFull.truckDecision
  | blockCleared {r : Request} (hstate : s.conveyor.state = .blocked) :
      Effect s (.clearBlock r) (s.mapConveyor (Conveyor.stand .stopped)).tellBeltBlocked
  | totalsCleared {r : Request} : Effect s (.clearTotals r) (s.mapConveyor Conveyor.clearTotals)
  | conveyorIntervalEnded :
      Effect s .conveyorIntervalExpiry { s.conveyorInterval with timers.conveyor := Config.conveyorMs }
  | runOnEnded (hdue : s.runOnDue = true) :
      Effect s .runOnExpiry { s.conveyorInterval with timers.conveyor := Config.conveyorMs }
  -- Chapter 9
  | noticesAcknowledged {r : Request} {named : Nat → Bool} :
      Effect s (.acknowledgeNotices r) (s.rewriteNotices (acknowledged named))
  | noticesMasked {r : Request} {masks : Nat → Bool} :
      Effect s (.setNoticeMask r) (s.rewriteNotices (fun k v => { v with masked := masks k }))
  -- Chapter 10
  | restartArranged {r : Request} : Effect s (.restart r) { s with link.restartTaken := true }
  | arrived {f : CanFrame} {g : Frame} : Effect s (.requestArrival f) (s.arrive g)
  | malformedAnswered {f : Frame} {u : State} {code tag : Byte} (hu : s.takeFrame f = some u) :
      Effect s (.malformedFrameTaken f) (u.respond f.requester code tag (plain .badRequest))
  | responseLeft : Effect s .responseSent s.sendResponse
  | responseDiscarded : Effect s .responseDiscard s.responseGone
  | broadcastFormed : Effect s .statusBroadcast s.formBroadcast
  | broadcastLeft : Effect s .broadcastSent { s with link.broadcast := none }
  | supervisionExpired : Effect s .supervisionExpiry s.expireSupervision
  | ceilingMessageLeft : Effect s .ceilingMessageSent { s with sensorLink.ceilingMessage := none }

/-! ### The owning block's effect, request by request -/

theorem ZoneFields.inRange_of_checked {p : List Byte} {f : ZoneFields} (h : checkedZone p = some f) : f.inRange = true :=
  (Option.filter_eq_some_iff.mp h).2

theorem MarkFields.inRange_of_checked {top : Nat} {p : List Byte} {f : MarkFields} (h : checkedMark top p = some f) :
    f.inRange top = true :=
  (Option.filter_eq_some_iff.mp h).2

theorem Geometry.inRange_of_checked {p : List Byte} {g : Geometry} (h : checkedGeometry p = some g) : g.inRange = true :=
  (Option.filter_eq_some_iff.mp h).2

/-- A request that names a zone has an effect where it has one on each record. -/
theorem Effect.of_withZone {s : State} {i : Instr} {n : Nat} {act : Zone → State × Reply}
    (h : ∀ z ∈ s.plan.zones, Effect s i (act z).1) : Effect s i (withZone n s act).1 := by
  unfold withZone
  split
  · exact .same i
  · cases hz : s.findZone n with
    | none => exact .same i
    | some z => exact h z (State.findZone_number hz).2

theorem Effect.of_withMark {s : State} {i : Instr} {n : Nat} {act : Mark → State × Reply}
    (h : ∀ m ∈ s.plan.marks, Effect s i (act m).1) : Effect s i (withMark n s act).1 := by
  unfold withMark
  split
  · exact .same i
  · cases hm : s.findMark n with
    | none => exact .same i
    | some m => exact h m (State.findMark_number hm).2

theorem Effect.of_withSide {s : State} {i : Instr} {p : List Byte} {act : Side → State × Reply}
    (h : ∀ x, sideOf (fieldAt p 0 1) = some x → Effect s i (act x).1) : Effect s i (withSide p s act).1 := by
  unfold withSide
  split
  · exact .same i
  · exact h _ ‹_›

section
variable (r : Request) (s : State)

theorem insertZone_effect (p : List Byte) : Effect s (.insertZone r) (insertZone p s).1 := by
  unfold insertZone
  cases hf : checkedZone p with
  | none => exact .same _
  | some f =>
    dsimp only
    split
    · exact .same _
    · rename_i hfree
      split
      · exact .same _
      · refine .zoneStored (ZoneFields.inRange_of_checked hf) (fun z hz => ?_) ‹_›
        exact Bool.eq_false_iff.mpr fun hmeets => hfree (List.any_eq_true.mpr ⟨z, hz, hmeets⟩)

theorem amendZone_effect (p : List Byte) : Effect s (.amendZone r) (amendZone p s).1 := by
  refine .of_withZone fun z hz => ?_
  cases hf : checkedZone (p.drop 1) with
  | none => exact .same _
  | some f =>
    dsimp only
    split
    · exact .same _
    · rename_i hfree
      refine .zoneAmended hz (ZoneFields.inRange_of_checked hf) fun y hy => ?_
      exact Bool.eq_false_iff.mpr fun hmeets => hfree (List.any_eq_true.mpr ⟨y, hy, hmeets⟩)

theorem suspendZone_effect (p : List Byte) : Effect s (.suspendZone r) (suspendZone p s).1 := by
  refine .of_withZone fun z _ => ?_
  split
  · exact .same _
  · exact .zoneSuspended

theorem reinstateZone_effect (p : List Byte) : Effect s (.reinstateZone r) (reinstateZone p s).1 := by
  refine .of_withZone fun z _ => ?_
  split
  · exact .zoneReinstated
  · exact .same _

theorem retireZone_effect (p : List Byte) : Effect s (.retireZone r) (retireZone p s).1 :=
  .of_withZone fun _ _ => .zoneRetired

theorem insertMark_effect (p : List Byte) : Effect s (.insertMark r) (insertMark p s).1 := by
  unfold insertMark
  cases hf : checkedMark s.maxDepth p with
  | none => exact .same _
  | some f =>
    dsimp only
    split
    · exact .same _
    · exact .markStored (MarkFields.inRange_of_checked hf) ‹_›

theorem amendMark_effect (p : List Byte) : Effect s (.amendMark r) (amendMark p s).1 := by
  refine .of_withMark fun m hm => ?_
  cases hf : checkedMark s.maxDepth (p.drop 1) with
  | none => exact .same _
  | some f => exact .markAmended hm (MarkFields.inRange_of_checked hf)

theorem writeGeometry_effect (p : List Byte) : Effect s (.writeGeometry r) (writeGeometry p s).1 := by
  unfold writeGeometry
  cases hg : checkedGeometry p with
  | none => exact .same _
  | some g => exact .geometryStored (Geometry.inRange_of_checked hg)

theorem fixStation_effect (p : List Byte) : Effect s (.fixStation r) (fixStation p s).1 := by
  unfold fixStation
  dsimp only
  split
  · exact .same _
  · split
    · exact .same _
    · exact .stationFixed (Nat.not_lt.mp ‹_›)

theorem setTravelSense_effect (p : List Byte) : Effect s (.setTravelSense r) (setTravelSense p s).1 := by
  unfold setTravelSense
  split
  · exact .same _
  · split
    · exact .same _
    · exact .senseSet

theorem configureChannel_effect : Effect s (.configureChannel r) (configureChannel (payloadOf 5 r) s).1 := by
  unfold configureChannel
  cases hg : configOf (payloadOf 5 r) with
  | none => exact .same _
  | some ng =>
    obtain ⟨n, g⟩ := ng
    dsimp only
    by_cases hidle : s.channelInUse n = true
    · rw [if_pos hidle]; exact .same _
    by_cases hfit : s.kindUnfit n g.kind = true
    · rw [if_neg hidle, if_pos hfit]; exact .same _
    by_cases hfree : s.addressTaken n g.address = true
    · rw [if_neg hidle, if_neg hfit, if_pos hfree]; exact .same _
    rw [if_neg hidle, if_neg hfit, if_neg hfree]
    exact .channelConfigured hg (Bool.eq_false_iff.mpr hidle) (Bool.eq_false_iff.mpr hfit) (Bool.eq_false_iff.mpr hfree)

theorem clearChannel_effect (p : List Byte) : Effect s (.clearChannel r) (clearChannel p s).1 := by
  unfold clearChannel
  cases channelOf (fieldAt p 0 1) with
  | none => exact .same _
  | some n =>
    dsimp only
    split
    · exact .same _
    · rename_i hidle
      split
      · exact .same _
      · exact .channelCleared (Bool.eq_false_iff.mpr hidle)

theorem assignRole_effect (p : List Byte) : Effect s (.assignRole r) (assignRole p s).1 := by
  unfold assignRole
  split
  · rename_i q v _ _
    by_cases hfit : s.unfitFor q v = true
    · rw [if_pos hfit]; exact .same _
    rw [if_neg hfit]
    split
    · exact .same _
    · rename_i hnew
      by_cases huse : s.roleInUse q = true
      · rw [if_pos huse]
        by_cases hfixed : s.roleFixed q = true
        · rw [if_pos hfixed]; exact .same _
        rw [if_neg hfixed]
        cases v with
        | none => exact .same _
        | some n =>
          dsimp only
          split
          · exact .roleTransferred (Bool.eq_false_iff.mpr hfit) hnew huse (Bool.eq_false_iff.mpr hfixed) ‹_›
          · exact .same _
      · rw [if_neg huse]
        exact .roleAssigned (Bool.eq_false_iff.mpr hfit) (Bool.eq_false_iff.mpr huse)
  · exact .same _

theorem setZero_effect : Effect s (.setZero r) (setZero (payloadOf 3 r) s).1 := by
  unfold setZero
  cases hx : sideOf (fieldAt (payloadOf 3 r) 0 1) with
  | none => exact .same _
  | some x =>
    dsimp only
    split
    · exact .same _
    · split
      · exact .same _
      · cases hrole : s.monitor.roles.get (gradeRole x) with
        | none => exact .same _
        | some n =>
          dsimp only
          split
          · exact .zeroSet hx hrole
          · exact .same _

theorem engage_effect : Effect s (.engage r) (engage (payloadOf 1 r) s).1 := by
  refine .of_withSide fun x hx => ?_
  dsimp only
  by_cases href : (s.side x).state = .referencing
  · rw [if_pos href]; exact .same _
  by_cases hauto : (s.side x).state = .auto
  · rw [if_neg href, if_pos hauto]; exact .same _
  rw [if_neg href, if_neg hauto]
  split
  · exact .same _
  · rename_i hzero
    split
    · exact .same _
    · rename_i hgrade
      split
      · exact .same _
      · rename_i hslope
        simp only [Bool.not_eq_true', Bool.not_eq_false, Bool.and_eq_true, decide_eq_true_eq, not_and] at hzero hgrade hslope
        exact .engaged hx ⟨href, hauto⟩ hzero hgrade hslope

theorem disengage_effect : Effect s (.disengage r) (disengage (payloadOf 1 r) s).1 :=
  .of_withSide fun _ hx => .disengaged hx

theorem jog_effect : Effect s (.jog r) (jog (payloadOf 2 r) s).1 := by
  refine .of_withSide fun x hx => ?_
  split
  · exact .same _
  · exact .jogged hx

theorem reference_effect : Effect s (.reference r) (reference (payloadOf 1 r) s).1 := by
  refine .of_withSide fun x hx => ?_
  dsimp only
  split
  · exact .same _
  · rename_i hstate
    split
    · exact .same _
    · split
      · exact .same _
      · rename_i hgrade
        split
        · exact .same _
        · split
          · exact .same _
          · rename_i hload
            simp only [Bool.not_eq_true', Bool.not_eq_false] at hgrade hload
            refine .referenceBegun hx ?_ hgrade hload
            cases h : (s.side x).state <;> simp [h] at hstate ⊢

theorem setSideMode_effect (p : List Byte) : Effect s (.setSideMode r) (setSideMode p s).1 := by
  refine .of_withSide fun x _ => ?_
  dsimp only
  split
  · exact .same _
  · split
    · exact .same _
    · rename_i hstate
      split
      · exact .same _
      · split
        · exact .same _
        · rename_i hother
          split
          · exact .same _
          · simp only [Bool.or_eq_true, Bool.and_eq_true, decide_eq_true_eq, not_or, not_and] at hstate hother
            exact .modeSet hstate hother

theorem setTrim_effect : Effect s (.setTrim r) (setTrim (payloadOf 3 r) s).1 :=
  .of_withSide fun _ hx => .trimSet hx

theorem writeBank_effect (p : List Byte) : Effect s (.writeBank r) (writeBank p s).1 := by
  unfold writeBank
  split
  · exact .same _
  · dsimp only
    split
    · exact .bankStored ‹_›
    · exact .same _

theorem conveyorStart_effect (p : List Byte) : Effect s (.conveyorStart r) (conveyorStart p s).1 := by
  unfold conveyorStart
  cases h : s.conveyor.state with
  | stopped => exact .beltStarted (.inl h)
  | runOn => exact .beltStarted (.inr h)
  | running | held | blocked => exact .same _

theorem conveyorStop_effect (p : List Byte) : Effect s (.conveyorStop r) (conveyorStop p s).1 := by
  unfold conveyorStop
  cases h : s.conveyor.state with
  | running => exact .beltRunsOn h
  | held => exact .beltReleased h
  | stopped | runOn | blocked => exact .same _

theorem setBeltMode_effect (p : List Byte) : Effect s (.setBeltMode r) (setBeltMode p s).1 := by
  unfold setBeltMode
  cases beltModeOf (fieldAt p 0 1) with
  | none => exact .same _
  | some m =>
    cases m with
    | auto => exact .beltModeTaken (.inl rfl)
    | fixed => exact .beltModeTaken (.inr ⟨_, rfl⟩)

theorem truckAway_effect (p : List Byte) : Effect s (.truckAway r) (truckAway p s).1 := by
  unfold truckAway
  cases h : s.conveyor.state with
  | running => exact .beltHeld (.inl h)
  | runOn => exact .beltHeld (.inr h)
  | held | stopped | blocked => exact .same _

theorem setTruckTarget_effect (p : List Byte) : Effect s (.setTruckTarget r) (setTruckTarget p s).1 := by
  refine .targetSet ?_
  have h := bringWithin_within (lo := 0) (hi := Config.truckTargetMax) (signedAt p 0 4) (by decide)
  omega

theorem clearBlock_effect (p : List Byte) : Effect s (.clearBlock r) (clearBlock p s).1 := by
  unfold clearBlock
  split
  · exact .same _
  · rename_i hstate
    split
    · exact .same _
    · exact .blockCleared (Classical.not_not.mp hstate)

theorem acknowledgeNotices_effect (p : List Byte) : Effect s (.acknowledgeNotices r) (acknowledgeNotices p s).1 := by
  unfold acknowledgeNotices
  split
  · exact .same _
  · exact .noticesAcknowledged

theorem setNoticeMask_effect (p : List Byte) : Effect s (.setNoticeMask r) (setNoticeMask p s).1 := by
  unfold setNoticeMask
  split
  · exact .same _
  · exact .noticesMasked

/-- A read has no effect. -/
theorem read_effect {i : Instr} {p : List Byte} (h : (requestAct i p s).1 = s) : Effect s i (requestAct i p s).1 := by
  rw [h]
  exact .same i

end

/-- The owning block's answer to a granted request is one of the effects. -/
theorem requestAct_effect {i : Instr} {row : RequestRow} {r : Request} (hrow : requestRow i = some (row, r)) (s : State) :
    Effect s i (requestAct i (payloadOf row.size r) s).1 := by
  cases i <;> simp only [requestRow, Option.some.injEq, Prod.mk.injEq, reduceCtorEq] at hrow <;>
    obtain ⟨rfl, rfl⟩ := hrow
  case insertZone => exact insertZone_effect _ s _
  case amendZone => exact amendZone_effect _ s _
  case suspendZone => exact suspendZone_effect _ s _
  case reinstateZone => exact reinstateZone_effect _ s _
  case retireZone => exact retireZone_effect _ s _
  case readZone => exact .of_withZone fun _ _ => .same _
  case findZone =>
    refine read_effect s ?_
    simp only [requestAct, findZone]
    split
    · rfl
    · split <;> rfl
  case listZones =>
    refine read_effect s ?_
    simp only [requestAct, listZones]
    split <;> rfl
  case insertMark => exact insertMark_effect _ s _
  case amendMark => exact amendMark_effect _ s _
  case retireMark => exact .of_withMark fun _ _ => .markRetired
  case readMark => exact .of_withMark fun _ _ => .same _
  case listMarks =>
    refine read_effect s ?_
    simp only [requestAct, listMarks]
    split <;> rfl
  case clearPlan => exact .planCleared
  case writeGeometry => exact writeGeometry_effect _ s _
  case fixStation => exact fixStation_effect _ s _
  case setTravelSense => exact setTravelSense_effect _ s _
  case configureChannel => exact configureChannel_effect _ s
  case clearChannel => exact clearChannel_effect _ s _
  case readChannel =>
    refine read_effect s ?_
    simp only [requestAct, readChannel]
    split <;> rfl
  case assignRole => exact assignRole_effect _ s _
  case setZero => exact setZero_effect _ s
  case engage => exact engage_effect _ s
  case disengage => exact disengage_effect _ s
  case jog => exact jog_effect _ s
  case reference => exact reference_effect _ s
  case setSideMode => exact setSideMode_effect _ s _
  case setTrim => exact setTrim_effect _ s
  case readSide => exact .of_withSide fun _ _ => .same _
  case writeBank => exact writeBank_effect _ s _
  case readBank =>
    refine read_effect s ?_
    simp only [requestAct, readBank]
    split <;> rfl
  case setAdvanceCap => exact .capSet
  case conveyorStart => exact conveyorStart_effect _ s []
  case conveyorStop => exact conveyorStop_effect _ s []
  case setBeltMode => exact setBeltMode_effect _ s _
  case truckAway => exact truckAway_effect _ s []
  case truckReady => exact .truckReadied
  case setTruckTarget => exact setTruckTarget_effect _ s _
  case clearBlock => exact clearBlock_effect _ s []
  case clearTotals => exact .totalsCleared
  case acknowledgeNotices => exact acknowledgeNotices_effect _ s _
  case setNoticeMask => exact setNoticeMask_effect _ s _
  case restart => exact .restartArranged
  -- The reads of one record each, and PRESENCE.
  all_goals exact .same _

/-! ### What a command can do -/

/-- What a reset command does: a reset begins, and one that is held is released. -/
inductive ResetEffect (s : State) : Instr → State → Prop
  | asserted {src : ResetSource} : ResetEffect s (.resetAssert src) (s.hold (resetKindAfter src s.heldReset))
  | restarted : ResetEffect s .restartResetStart (s.hold .warm)
  | coldReleased {a b ea eb : Bool} (hheld : s.heldReset = some .cold) :
      ResetEffect s (.coldResetRelease a b ea eb) (coldState a b ea eb s)
  | warmReleased {ea eb : Bool} (hheld : s.heldReset = some .warm) :
      ResetEffect s (.warmResetRelease ea eb) (warmState ea eb s)

/-- A request whose frame is taken: `u` is the state without the frame, `v` what the request makes of it, and `t`
has the response in its slot. A request that fails a test of the interface has no effect. -/
inductive RequestOutcome (s : State) (i : Instr) (row : RequestRow) (r : Request) : State → Prop
  | answered {u v : State} {a : Reply} (hrow : requestRow i = some (row, r))
      (htake : s.takeFrame (requestFrame row.code r) = some u)
      (heffect : v = u ∨ row.grant.admits r.requester (payloadOf row.size r) = true ∧ Effect u i v) :
      RequestOutcome s i row r (v.respond r.requester (BitVec.ofNat 8 row.code) r.tag a)

/-- The answer to a taken frame: nothing has changed, or the request is granted and has its effect (R188). -/
theorem judgeRequest_effect {i : Instr} {row : RequestRow} {r : Request} (hrow : requestRow i = some (row, r))
    (u : State) : (judgeRequest row.size row.grant (requestAct i) r u).1 = u ∨
      row.grant.admits r.requester (payloadOf row.size r) = true ∧
        Effect u i (judgeRequest row.size row.grant (requestAct i) r u).1 := by
  unfold judgeRequest
  split
  · exact .inl rfl
  · split
    · exact .inl rfl
    · rename_i hgrant
      exact .inr ⟨by simpa using hgrant, requestAct_effect hrow u⟩

/-- A request command changes nothing, or its frame is taken and answered (R187, R188). -/
theorem exec_request_cases {i : Instr} {row : RequestRow} {r : Request} {s t : State}
    (hrow : requestRow i = some (row, r)) (h : exec i s = .next t) : t = s ∨ RequestOutcome s i row r t := by
  rw [exec_serve hrow] at h
  obtain rfl := Host.Outcome.next.inj h
  obtain hsame | ⟨u, htake, hanswer⟩ := serve_cases row.code row.size row.grant (requestAct i) r s
  · exact .inl hsame
  · rw [hanswer]
    exact .inr (.answered hrow htake (judgeRequest_effect hrow u))

/-- An event that is taken while the part runs has its effect, and none while a reset is held. -/
theorem whileRunning_cases {i : Instr} {s t u : State} (h : Host.Outcome.next (s.whileRunning u) = (.next t : Answer))
    (heffect : Effect s i u) : t = s ∨ s.heldReset = none ∧ Effect s i t := by
  obtain rfl := Host.Outcome.next.inj h
  by_cases hrun : s.heldReset = none
  · rw [State.whileRunning_running hrun]
    exact .inr ⟨hrun, heffect⟩
  · exact .inl (State.whileRunning_held hrun)

theorem execMalformedFrameTaken_cases {f : Frame} {s t : State} (h : execMalformedFrameTaken f s = .next t) :
    t = s ∨ s.heldReset = none ∧ Effect s (.malformedFrameTaken f) t := by
  obtain rfl := Host.Outcome.next.inj h
  unfold State.takeMalformed
  split
  · cases htake : s.takeFrame f with
    | none => exact .inl rfl
    | some u => exact .inr ⟨(State.mayTake_iff.mp (State.takeFrame_some htake).1).1, .malformedAnswered htake⟩
  · exact .inl rfl

/-- An event that comes to something under a condition, and to nothing without it. -/
theorem Effect.ite {i : Instr} {s u : State} {c : Bool} (h : c = true → Effect s i u) :
    Effect s i (if c then u else s) := by
  cases c with
  | true => exact h rfl
  | false => exact .same i

theorem execRestartResetStart_cases {s t : State} (h : execRestartResetStart s = .next t) :
    t = s ∨ ResetEffect s .restartResetStart t := by
  obtain rfl := Host.Outcome.next.inj h
  unfold State.whileRunning
  split
  · exact .inl rfl
  · split
    · exact .inr .restarted
    · exact .inl rfl

/-- What an event can do: nothing, its effect on a running part, or that of a reset. -/
theorem exec_event_cases {i : Instr} {s t : State} (hrow : requestRow i = none) (h : exec i s = .next t) :
    t = s ∨ (s.heldReset = none ∧ Effect s i t) ∨ ResetEffect s i t := by
  have running : ∀ u, Host.Outcome.next (s.whileRunning u) = (.next t : Answer) → Effect s i u →
      t = s ∨ (s.heldReset = none ∧ Effect s i t) ∨ ResetEffect s i t :=
    fun u hu heffect => (whileRunning_cases hu heffect).imp_right .inl
  cases i with
  | requestArrival f =>
    refine running _ h ?_
    split
    · exact .arrived
    · exact .same _
  | malformedFrameTaken f => exact (execMalformedFrameTaken_cases h).imp_right .inl
  | responseSent => exact running _ h .responseLeft
  | responseDiscard => exact running _ h .responseDiscarded
  | statusBroadcast => exact running _ h .broadcastFormed
  | broadcastSent => exact running _ h .broadcastLeft
  | supervisionExpiry => exact running _ h .supervisionExpired
  | readingMessage f =>
    refine running _ h ?_
    split
    · exact .readingTaken
    · exact .same _
  | freshnessExpiry n => exact running _ h .freshnessExpired
  | ceilingMessageSent => exact running _ h .ceilingMessageLeft
  | encoderCount e => exact running _ h .counted
  | encoderDoubleStep => exact running _ h .doubleStepped
  | speedWindowExpiry => exact running _ h .speedFormed
  | sideIntervalExpiry x => exact running _ h .sideIntervalEnded
  | jogLeaseExpiry x => exact running _ h .leaseExpired
  | settleDwellExpiry x => exact running _ h (.ite .dwellEnded)
  | governorIntervalExpiry => exact running _ h .governorIntervalEnded
  | loadWindowExpiry => exact running _ h .loadWindowEnded
  | conveyorIntervalExpiry => exact running _ h .conveyorIntervalEnded
  | runOnExpiry => exact running _ h (.ite .runOnEnded)
  | resetAssert src =>
    obtain rfl := Host.Outcome.next.inj h
    exact .inr (.inr .asserted)
  | restartResetStart => exact (execRestartResetStart_cases h).imp_right .inr
  | coldResetRelease a b ea eb =>
    obtain rfl := Host.Outcome.next.inj h
    split
    · exact .inr (.inr (.coldReleased ‹_›))
    · exact .inl rfl
  | warmResetRelease ea eb =>
    obtain rfl := Host.Outcome.next.inj h
    split
    · exact .inr (.inr (.warmReleased ‹_›))
    · exact .inl rfl
  | _ => cases hrow

end Sys2Proof.Machine
end

section
/-! What the operations of the plan, the channels and the sides leave alone, one lemma for each; and with it what
every effect does to the governor's law, the links and the free-running timers. -/
namespace Sys2Proof.Machine

/-! ### What the operations leave alone -/

/-- The parts that no operation of the plan, the channels, the sides and the banks writes. -/
@[reducible] def KeepsOuter (s t : State) : Prop :=
  t.governor = s.governor ∧ t.conveyor = s.conveyor ∧ t.link = s.link ∧ t.sensorLink = s.sensorLink ∧
    t.timers = s.timers ∧ t.heldReset = s.heldReset ∧ t.pending = s.pending

/-- The parts that the operations of one side do not write. -/
@[reducible] def KeepsGround (s t : State) : Prop :=
  t.station = s.station ∧ t.banks = s.banks ∧ t.plan.zones = s.plan.zones ∧ t.plan.governing = s.plan.governing

section
variable (s : State)

@[simp] theorem State.storeZone_keepsOuter (z : Zone) (zs : List Zone) : KeepsOuter s (s.storeZone z zs) := by
  unfold State.storeZone
  dsimp only
  split <;> simp [KeepsOuter]

@[simp] theorem State.fixAt_keepsOuter (st : Nat) : KeepsOuter s (s.fixAt st) := by simp [KeepsOuter, State.fixAt]

@[simp] theorem State.takeReading_keepsOuter (r : Reading) : KeepsOuter s (s.takeReading r) := by
  unfold State.takeReading
  split
  · simp [KeepsOuter]
  · split <;> simp [KeepsOuter]

@[simp] theorem State.takeReading_keepsGround (r : Reading) : KeepsGround s (s.takeReading r) := by
  unfold State.takeReading
  split
  · simp [KeepsGround]
  · split <;> simp [KeepsGround]

@[simp] theorem State.expireFreshness_keepsOuter (n : Fin 8) : KeepsOuter s (s.expireFreshness n) := by
  unfold State.expireFreshness
  dsimp only
  split <;> simp [KeepsOuter]

@[simp] theorem State.expireFreshness_keepsGround (n : Fin 8) : KeepsGround s (s.expireFreshness n) := by
  unfold State.expireFreshness
  dsimp only
  split <;> simp [KeepsGround]

@[simp] theorem State.dropRole_keepsOuter (n : Fin 8) : KeepsOuter s (s.dropRole n) := by
  unfold State.dropRole
  split <;> simp [KeepsOuter]

@[simp] theorem State.dropRole_keepsGround (n : Fin 8) : KeepsGround s (s.dropRole n) := by
  unfold State.dropRole
  split <;> simp [KeepsGround]

@[simp] theorem State.transfer_keepsOuter (r : Role) (n : Fin 8) : KeepsOuter s (s.transfer r n) := by
  unfold State.transfer State.transferGrade State.transferSlope State.rebase
  cases r <;> dsimp only
  case crossSlope => split <;> split <;> simp [KeepsOuter]
  all_goals simp [KeepsOuter]

@[simp] theorem State.transfer_keepsGround (r : Role) (n : Fin 8) : KeepsGround s (s.transfer r n) := by
  unfold State.transfer State.transferGrade State.transferSlope State.rebase
  cases r <;> dsimp only
  case crossSlope => split <;> split <;> simp [KeepsGround]
  all_goals simp [KeepsGround]

@[simp] theorem State.enterAuto_keepsOuter (x : Side) : KeepsOuter s (s.enterAuto x) := by simp [KeepsOuter, State.enterAuto]

@[simp] theorem State.enterAuto_keepsGround (x : Side) : KeepsGround s (s.enterAuto x) := by simp [KeepsGround, State.enterAuto]

@[simp] theorem State.disengageSide_keepsOuter (x : Side) : KeepsOuter s (s.disengageSide x) := by
  unfold State.disengageSide
  dsimp only
  split <;> simp [KeepsOuter]

@[simp] theorem State.disengageSide_keepsGround (x : Side) : KeepsGround s (s.disengageSide x) := by
  unfold State.disengageSide
  dsimp only
  split <;> simp [KeepsGround]

@[simp] theorem State.toManual_keepsOuter (x : Side) : KeepsOuter s (s.toManual x) := by
  unfold State.toManual
  dsimp only
  split <;> simp [KeepsOuter]

@[simp] theorem State.toManual_keepsGround (x : Side) : KeepsGround s (s.toManual x) := by
  unfold State.toManual
  dsimp only
  split <;> simp [KeepsGround]

@[simp] theorem State.startLease_keepsOuter (x : Side) (d : Direction) : KeepsOuter s (s.startLease x d) := by
  simp [KeepsOuter, State.startLease]

@[simp] theorem State.startLease_keepsGround (x : Side) (d : Direction) : KeepsGround s (s.startLease x d) := by
  simp [KeepsGround, State.startLease]

@[simp] theorem State.startReferencing_keepsOuter (x : Side) : KeepsOuter s (s.startReferencing x) := by
  simp [KeepsOuter, State.startReferencing]

@[simp] theorem State.startReferencing_keepsGround (x : Side) : KeepsGround s (s.startReferencing x) := by
  simp [KeepsGround, State.startReferencing]

@[simp] theorem State.drive_keepsOuter (x : Side) (u : Int) : KeepsOuter s (s.drive x u) := by simp [KeepsOuter, State.drive]

@[simp] theorem State.drive_keepsGround (x : Side) (u : Int) : KeepsGround s (s.drive x u) := by simp [KeepsGround, State.drive]

@[simp] theorem State.countSettle_keepsOuter (x : Side) : KeepsOuter s (s.countSettle x) := by simp [KeepsOuter, State.countSettle]

@[simp] theorem State.countSettle_keepsGround (x : Side) : KeepsGround s (s.countSettle x) := by
  simp [KeepsGround, State.countSettle]

@[simp] theorem State.computeTarget_keepsOuter (x : Side) : KeepsOuter s (s.computeTarget x) := by
  simp [KeepsOuter, State.computeTarget]

@[simp] theorem State.computeTarget_keepsGround (x : Side) : KeepsGround s (s.computeTarget x) := by
  simp [KeepsGround, State.computeTarget]

@[simp] theorem State.touch_keepsOuter (x : Side) : KeepsOuter s (s.touch x) := by
  unfold State.touch State.zeroAtTouch
  split <;> simp [KeepsOuter]

@[simp] theorem State.touch_keepsGround (x : Side) : KeepsGround s (s.touch x) := by
  unfold State.touch State.zeroAtTouch
  split <;> simp [KeepsGround]

@[simp] theorem State.autoInterval_keepsOuter (x : Side) : KeepsOuter s (s.autoInterval x) := by
  unfold State.autoInterval
  dsimp only
  split <;> simp [KeepsOuter]

@[simp] theorem State.autoInterval_keepsGround (x : Side) : KeepsGround s (s.autoInterval x) := by
  unfold State.autoInterval
  dsimp only
  split <;> simp [KeepsGround]

@[simp] theorem State.sideInterval_keepsOuter (x : Side) : KeepsOuter s (s.sideInterval x) := by
  unfold State.sideInterval State.referencingInterval
  split
  · simp [KeepsOuter]
  · simp [KeepsOuter]
  · split <;> simp [KeepsOuter]
  · split <;> simp [KeepsOuter]
  · simp [KeepsOuter]

@[simp] theorem State.sideInterval_keepsGround (x : Side) : KeepsGround s (s.sideInterval x) := by
  unfold State.sideInterval State.referencingInterval
  split
  · simp [KeepsGround]
  · simp [KeepsGround]
  · split <;> simp [KeepsGround]
  · split <;> simp [KeepsGround]
  · simp [KeepsGround]

@[simp] theorem State.expireLease_keepsOuter (x : Side) : KeepsOuter s (s.expireLease x) := by
  unfold State.expireLease
  dsimp only
  split <;> simp [KeepsOuter]

@[simp] theorem State.expireLease_keepsGround (x : Side) : KeepsGround s (s.expireLease x) := by
  unfold State.expireLease
  dsimp only
  split <;> simp [KeepsGround]

/-- The parts that no operation of the conveyor writes. -/
@[reducible] def KeepsButBelt (s t : State) : Prop :=
  t.plan = s.plan ∧ t.station = s.station ∧ t.monitor = s.monitor ∧ t.left = s.left ∧ t.right = s.right ∧
    t.banks = s.banks ∧ t.governor = s.governor ∧ t.link = s.link ∧ t.sensorLink = s.sensorLink ∧
    t.timers = s.timers ∧ t.heldReset = s.heldReset ∧ t.pending = s.pending

@[simp] theorem State.spillExcess_keepsButBelt : KeepsButBelt s s.spillExcess := by
  unfold State.spillExcess
  dsimp only
  split <;> simp [KeepsButBelt]

@[simp] theorem State.reviewLatch_keepsButBelt : KeepsButBelt s s.reviewLatch := by
  simp [KeepsButBelt, State.reviewLatch]

@[simp] theorem State.startBelt_keepsButBelt : KeepsButBelt s s.startBelt := by simp [KeepsButBelt, State.startBelt]

@[simp] theorem State.takeBeltMode_keepsButBelt (m : BeltMode) (v : Nat) : KeepsButBelt s (s.takeBeltMode m v) := by
  simp [KeepsButBelt, State.takeBeltMode]

@[simp] theorem State.truckDecision_keepsButBelt : KeepsButBelt s s.truckDecision := by
  unfold State.truckDecision
  split <;> simp [KeepsButBelt]

@[simp] theorem truckReady_keepsButBelt (p : List Byte) : KeepsButBelt s (truckReady p s).1 := by
  unfold truckReady
  dsimp only
  split <;> simp [KeepsButBelt, taken]

@[simp] theorem State.conveyorCut_keepsButBelt : KeepsButBelt s s.conveyorCut := by
  simp [KeepsButBelt, State.conveyorCut]

@[simp] theorem State.conveyorBlock_keepsButBelt : KeepsButBelt s s.conveyorBlock := by
  unfold State.conveyorBlock
  dsimp only
  split
  · split <;> simp [KeepsButBelt]
  · simp [KeepsButBelt]

@[simp] theorem State.conveyorRunOn_keepsButBelt (was : ConveyorState) : KeepsButBelt s (s.conveyorRunOn was) := by
  unfold State.conveyorRunOn
  split
  · split <;> simp [KeepsButBelt]
  · simp [KeepsButBelt]

@[simp] theorem State.conveyorSpeed_keepsButBelt : KeepsButBelt s s.conveyorSpeed := by
  simp [KeepsButBelt, State.conveyorSpeed]

@[simp] theorem State.conveyorFill_keepsButBelt : KeepsButBelt s s.conveyorFill := by
  unfold State.conveyorFill
  dsimp only
  split <;> simp [KeepsButBelt]

@[simp] theorem State.conveyorFirst_keepsButBelt : KeepsButBelt s s.conveyorFirst := by
  simp [KeepsButBelt, State.conveyorFirst]

@[simp] theorem State.conveyorInterval_keepsButBelt : KeepsButBelt s s.conveyorInterval := by
  simp [KeepsButBelt, State.conveyorInterval]

/-- The parts that the governor does not write. -/
@[reducible] def KeepsButGovernor (s t : State) : Prop :=
  t.plan = s.plan ∧ t.station = s.station ∧ t.monitor = s.monitor ∧ t.left = s.left ∧ t.right = s.right ∧
    t.banks = s.banks ∧ t.conveyor = s.conveyor ∧ t.link = s.link ∧ t.timers = s.timers ∧
    t.heldReset = s.heldReset ∧ t.pending = s.pending

@[simp] theorem State.governorInterval_keepsButGovernor : KeepsButGovernor s s.governorInterval := by
  simp [KeepsButGovernor, State.governorInterval]

@[simp] theorem State.loadWindow_keepsButGovernor : KeepsButGovernor s s.loadWindow := by
  unfold State.loadWindow
  split
  · simp [KeepsButGovernor]
  · dsimp only
    split <;> simp [KeepsButGovernor]

@[simp] theorem State.loadWindow_sensorLink : s.loadWindow.sensorLink = s.sensorLink := by
  unfold State.loadWindow
  split
  · rfl
  · dsimp only
    split <;> simp

@[simp] theorem setAdvanceCap_keepsButGovernor (p : List Byte) : KeepsButGovernor s (setAdvanceCap p s).1 := by
  simp [KeepsButGovernor, setAdvanceCap]

@[simp] theorem setAdvanceCap_sensorLink (p : List Byte) : (setAdvanceCap p s).1.sensorLink = s.sensorLink := rfl

/-- The parts that no operation of the plan link writes. -/
@[reducible] def KeepsBlocks (s t : State) : Prop :=
  t.plan = s.plan ∧ t.station = s.station ∧ t.monitor = s.monitor ∧ t.left = s.left ∧ t.right = s.right ∧
    t.banks = s.banks ∧ t.governor = s.governor ∧ t.conveyor = s.conveyor ∧ t.sensorLink = s.sensorLink ∧
    t.timers = s.timers ∧ t.heldReset = s.heldReset ∧ t.pending = s.pending

@[simp] theorem State.enqueue_keepsBlocks (f : Frame) : KeepsBlocks s (s.enqueue f) := by
  unfold State.enqueue
  split <;> simp [KeepsBlocks]

@[simp] theorem State.arrive_keepsBlocks (f : Frame) : KeepsBlocks s (s.arrive f) := by
  simp [KeepsBlocks, State.arrive]

@[simp] theorem State.expireSupervision_keepsBlocks : KeepsBlocks s s.expireSupervision := by
  unfold State.expireSupervision
  split
  · simp [KeepsBlocks]
  · split <;> simp [KeepsBlocks]

@[simp] theorem State.responseGone_keepsBlocks : KeepsBlocks s s.responseGone := by
  simp [KeepsBlocks, State.responseGone_eq]

@[simp] theorem State.sendResponse_keepsBlocks : KeepsBlocks s s.sendResponse := by
  unfold State.sendResponse
  split <;> simp [KeepsBlocks]

@[simp] theorem State.formBroadcast_keepsBlocks : KeepsBlocks s s.formBroadcast := by
  simp [KeepsBlocks, State.formBroadcast]

/-- A frame that is taken leaves the queue; on an empty queue it is heard as it arrives. -/
theorem State.takeFrame_keepsBlocks {s u : State} {f : Frame} (h : s.takeFrame f = some u) : KeepsBlocks s u := by
  obtain ⟨-, ⟨-, rfl⟩ | ⟨rest, -, rfl⟩⟩ := State.takeFrame_some h <;> simp [KeepsBlocks]

@[simp] theorem State.rewriteNotices_keepsButBelt (f : Nat → NoticeRecord → NoticeRecord) :
    KeepsButBelt s (s.rewriteNotices f) := by
  simp [KeepsButBelt, State.rewriteNotices]

@[simp] theorem State.rewriteNotices_conveyor (f : Nat → NoticeRecord → NoticeRecord) :
    (s.rewriteNotices f).conveyor = s.conveyor := rfl

/-! ### The geometry record and the banks -/

/-- A geometry record that is stored writes no part but its own, the conveyor and the notices. -/
@[simp] theorem State.storeGeometry_keeps (g : Geometry) : (s.storeGeometry g).plan = s.plan ∧
    (s.storeGeometry g).station = { s.station with geometry := g } ∧ (s.storeGeometry g).monitor = s.monitor ∧
    (s.storeGeometry g).left = s.left ∧ (s.storeGeometry g).right = s.right ∧ (s.storeGeometry g).banks = s.banks ∧
    (s.storeGeometry g).governor = s.governor ∧ (s.storeGeometry g).link = s.link ∧
    (s.storeGeometry g).sensorLink = s.sensorLink ∧ (s.storeGeometry g).timers = s.timers ∧
    (s.storeGeometry g).heldReset = s.heldReset ∧ (s.storeGeometry g).pending = s.pending := by
  simp [State.storeGeometry]

@[simp] theorem State.storeBank_keepsOuter (n : BankName) (b : Bank) : KeepsOuter s (s.storeBank n b) := by
  unfold State.storeBank
  split <;> simp [KeepsOuter]

@[simp] theorem State.markSuspended_keepsOuter (n : Nat) (v : Bool) : KeepsOuter s (s.markSuspended n v) := by
  simp [KeepsOuter, State.markSuspended]

end

/-! ### The queue of commands and a held reset -/

/-- No effect touches the queue of commands, or the reset that is held. -/
theorem Effect.keepsQueue {s t : State} {i : Instr} (h : Effect s i t) :
    t.pending = s.pending ∧ t.heldReset = s.heldReset := by
  cases h with
  | malformedAnswered hu =>
    obtain ⟨-, -, -, -, -, -, -, -, -, -, hheld, hpend⟩ := State.takeFrame_keepsBlocks hu
    exact ⟨hpend, hheld⟩
  | _ => simp

theorem releasedNotices_pending (v : Vector NoticeRecord 19) (n : Notice) (s : State) :
    (releasedNotices v n s).pending = s.pending := by simp [releasedNotices]

theorem ResetEffect.pending {s t : State} {i : Instr} (h : ResetEffect s i t) : t.pending = s.pending := by
  cases h with
  | asserted | restarted => rfl
  | coldReleased => simp [coldState, releasedNotices_pending]
  | warmReleased => simp [warmState, releasedNotices_pending, State.warmBlocks]

theorem RequestOutcome.pending {s t : State} {i : Instr} {row : RequestRow} {r : Request}
    (h : RequestOutcome s i row r t) : t.pending = s.pending := by
  obtain ⟨-, htake, heffect⟩ := h
  obtain ⟨-, -, -, -, -, -, -, -, -, -, -, hpend⟩ := State.takeFrame_keepsBlocks htake
  rw [State.respond_pending]
  obtain rfl | ⟨-, heffect⟩ := heffect
  · exact hpend
  · exact heffect.keepsQueue.1.trans hpend

/-- Every command answers a next state: `exec` has no arm that stops. -/
theorem exec_answers_next (i : Instr) (s : State) : ∃ t, exec i s = .next t := by
  cases i <;> exact ⟨_, rfl⟩

/-- Settles O4: each way a command can change the state leaves the queue of commands alone. -/
theorem commandsCompleteAndKeepTheQueue : Obligations.CommandsCompleteAndKeepTheQueue := by
  intro i s
  obtain ⟨t, ht⟩ := exec_answers_next i s
  refine ⟨t, ht, ?_⟩
  cases hrow : requestRow i with
  | some p =>
    obtain ⟨row, r⟩ := p
    obtain rfl | houtcome := exec_request_cases hrow ht
    · rfl
    · exact houtcome.pending
  | none =>
    obtain rfl | ⟨-, heffect⟩ | hreset := exec_event_cases hrow ht
    · rfl
    · exact heffect.keepsQueue.1
    · exact hreset.pending

end Sys2Proof.Machine
end

section
/-! What every command does to the governor's law, the links and the free-running timers (R37, R97, R137, R144, R187,
R190, R192, R193, R196, R198). -/
namespace Sys2Proof.Machine

/-! ### The free-running timers (R37, R97, R137, R155) -/

theorem TimersOk.of_eq {s t : State} (h : TimersOk s) (heq : t.timers = s.timers) : TimersOk t := by
  rwa [TimersOk, heq]

theorem TimersOk.nextSidePeriod {s : State} (h : TimersOk s) (x : Side) : TimersOk (s.nextSidePeriod x) := by
  obtain ⟨hleft, hright, hrest⟩ := h
  cases x with
  | left => exact ⟨Nat.le_refl _, hright, hrest⟩
  | right => exact ⟨hleft, Nat.le_refl _, hrest⟩

theorem resetTimers_ok {s : State} (h : s.timers = resetTimers) : TimersOk s := by
  rw [TimersOk, h]
  decide

/-- An effect starts a timer's whole next period, or leaves the timers alone. -/
theorem Effect.keepsTimers {s t : State} {i : Instr} (h : Effect s i t) (hs : TimersOk s) : TimersOk t := by
  cases h with
  | speedFormed =>
    obtain ⟨h1, h2, h3, h4, h5, -⟩ := hs
    exact ⟨h1, h2, h3, h4, h5, Nat.le_refl _⟩
  | sideIntervalEnded | dwellEnded => exact (hs.of_eq (by simp)).nextSidePeriod _
  | governorIntervalEnded =>
    obtain ⟨h1, h2, -, h4, h5, h6⟩ := hs
    exact ⟨h1, h2, Nat.le_refl _, h4, h5, h6⟩
  | loadWindowEnded =>
    have hkeep : s.loadWindow.timers = s.timers := by simp
    obtain ⟨h1, h2, h3, -, h5, h6⟩ := hs.of_eq hkeep
    exact ⟨h1, h2, h3, Nat.le_refl _, h5, h6⟩
  | conveyorIntervalEnded | runOnEnded =>
    have hkeep : s.conveyorInterval.timers = s.timers := by simp
    obtain ⟨h1, h2, h3, h4, -, h6⟩ := hs.of_eq hkeep
    exact ⟨h1, h2, h3, h4, Nat.le_refl _, h6⟩
  | malformedAnswered hu =>
    obtain ⟨-, -, -, -, -, -, -, -, -, htimers, -⟩ := State.takeFrame_keepsBlocks hu
    exact hs.of_eq htimers
  | _ => exact hs.of_eq (by simp)

/-! ### The governor (R137, R139, R147) -/

theorem GovernorOk.of_eq {s t : State} (h : GovernorOk s) (heq : t.governor = s.governor) : GovernorOk t := by
  rwa [GovernorOk, heq]

/-- A cap that is set holds the ceiling below it (R142, R143). -/
theorem GovernorOk.setAdvanceCap {s : State} (h : GovernorOk s) (p : List Byte) : GovernorOk (setAdvanceCap p s).1 := by
  obtain ⟨-, -, hreduction, hbelow, hformed⟩ := h
  have hcap : (bringWithin 0 Config.capMax (signedAt p 0 2)).toNat ≤ 600 := by
    have := bringWithin_within (lo := 0) (hi := Config.capMax) (signedAt p 0 2) (by decide)
    have hmax : Config.capMax = 600 := rfl
    omega
  unfold Machine.setAdvanceCap
  dsimp only [GovernorOk]
  split
  · refine ⟨hcap, Nat.le_refl _, hreduction, hbelow, fun hf => ?_⟩
    have := (hformed hf).1
    omega
  · exact ⟨hcap, Nat.not_lt.mp ‹_›, hreduction, hbelow, hformed⟩

/-- OPERATOR is among the sources, so the ceiling is never above the cap (R138, R139). -/
theorem State.ceilingOf_le_cap (inCut : Bool) (s : State) :
    (ceilingOf s.governor.cap (s.sources inCut)).1 ≤ s.governor.cap :=
  (s.ceilingOf_isFirstLeast inCut).least .operator _ (State.mem_sources.mpr rfl)

theorem GovernorOk.governorInterval {s : State} (h : GovernorOk s) : GovernorOk s.governorInterval := by
  obtain ⟨hcap, -, hreduction, hbelow, -⟩ := h
  exact ⟨hcap, s.ceilingOf_le_cap _, hreduction, hbelow, fun hf => Bool.noConfusion hf⟩

/-- A judged window moves the reduction among its nine values (R147, R148). -/
theorem afterWindow_ok {r count : Nat} (w : Int) (θ : Nat) (hr : r ∈ [0, 10, 20, 30, 40, 50, 60, 70, 100]) :
    (afterWindow w θ r count).1 ∈ [0, 10, 20, 30, 40, 50, 60, 70, 100] ∧ (afterWindow w θ r count).2 ≤ 1 := by
  have hup : stepUp r ∈ [0, 10, 20, 30, 40, 50, 60, 70, 100] := by revert r; decide
  have hdown : stepDown r ∈ [0, 10, 20, 30, 40, 50, 60, 70, 100] := by revert r; decide
  unfold afterWindow
  split
  · exact ⟨by decide, by decide⟩
  · split
    · exact ⟨hup, Nat.zero_le _⟩
    · split
      · exact ⟨hr, Nat.zero_le _⟩
      · split
        · exact ⟨hr, Nat.le_refl _⟩
        · exact ⟨hdown, Nat.zero_le _⟩

theorem State.loadWindow_governor (s : State) : s.loadWindow.governor = match s.drumLoad with
    | none => s.governor
    | some w => { s.governor with
        reduction := (afterWindow w s.activeBank.loadThreshold s.governor.reduction s.governor.belowCount).1
        belowCount := (afterWindow w s.activeBank.loadThreshold s.governor.reduction s.governor.belowCount).2 } := by
  unfold State.loadWindow
  cases s.drumLoad with
  | none => rfl
  | some w =>
    dsimp only
    split <;> rfl

theorem GovernorOk.loadWindow {s : State} (h : GovernorOk s) : GovernorOk s.loadWindow := by
  rw [GovernorOk, State.loadWindow_governor]
  cases s.drumLoad with
  | none => exact h
  | some w =>
    obtain ⟨hcap, hceiling, hreduction, -, hformed⟩ := h
    obtain ⟨hr, hb⟩ := afterWindow_ok (count := s.governor.belowCount) w s.activeBank.loadThreshold hreduction
    exact ⟨hcap, hceiling, hr, hb, hformed⟩

theorem resetGovernor_ok {s : State} {cap : Nat} (h : s.governor = resetGovernor cap) (hcap : cap ≤ 600) :
    GovernorOk s := by
  rw [GovernorOk, h]
  exact ⟨hcap, Nat.zero_le _, by simp [resetGovernor], Nat.zero_le _, fun _ => ⟨rfl, rfl, rfl⟩⟩

theorem Effect.keepsGovernor {s t : State} {i : Instr} (h : Effect s i t) (hs : GovernorOk s) : GovernorOk t := by
  cases h with
  | capSet => exact hs.setAdvanceCap _
  | governorIntervalEnded => exact hs.governorInterval
  | loadWindowEnded => exact hs.loadWindow
  | malformedAnswered hu =>
    obtain ⟨-, -, -, -, -, -, hgov, -⟩ := State.takeFrame_keepsBlocks hu
    exact hs.of_eq hgov
  | _ => exact hs.of_eq (by simp)

/-! ### The links (R187, R190, R192, R193, R196, R198) -/

/-- The law of the links of a running part, which leaves out what a held reset empties. -/
structure State.LinkRuns (s : State) : Prop where
  queue : s.link.queue.length ≤ 4
  response : ∀ v ∈ s.link.response, v.remaining ≤ 100
  timer : s.link.broadcastTimer ≤ 100
  supervision : ∀ t ∈ s.link.supervision, t ≤ 1500
  loss : s.link.supervision = none ↔ s.link.linkLoss = true
  message : ∀ m ∈ s.sensorLink.ceilingMessage, m.length = 4
  broadcast : ∀ b ∈ s.link.broadcast, b.length = 42

theorem LinkOk.runs {s : State} (h : LinkOk s) : s.LinkRuns := by
  obtain ⟨h1, h2, h3, h4, h5, h6, h7, -⟩ := h
  exact ⟨h1, h2, h3, h4, h5, h6, h7⟩

theorem State.LinkRuns.ok {s : State} (h : s.LinkRuns) (hrun : s.heldReset = none) : LinkOk s :=
  ⟨h.queue, h.response, h.timer, h.supervision, h.loss, h.message, h.broadcast, fun hheld => absurd hrun hheld⟩

theorem State.LinkRuns.of_eq {s t : State} (h : s.LinkRuns) (hlink : t.link = s.link)
    (hsensor : t.sensorLink = s.sensorLink) : t.LinkRuns := by
  obtain ⟨h1, h2, h3, h4, h5, h6, h7⟩ := h
  rw [← hlink] at h1 h2 h3 h4 h5 h7
  rw [← hsensor] at h6
  exact ⟨h1, h2, h3, h4, h5, h6, h7⟩

theorem State.consoleHeard_link (s : State) :
    s.consoleHeard.link = { s.link with supervision := some 1500, linkLoss := false } := by
  simp [State.consoleHeard, Config.supervisionMs]

theorem State.LinkRuns.heard {s : State} (h : s.LinkRuns) (q : Requester) : (s.heard q).LinkRuns := by
  obtain ⟨-, hq⟩ | ⟨-, hq⟩ := State.heard_cases q s
  · have hlink := s.consoleHeard_link
    rw [← hq] at hlink
    refine ⟨?_, ?_, ?_, ?_, ?_, ?_, ?_⟩
    · rw [hlink]; exact h.queue
    · rw [hlink]; exact h.response
    · rw [hlink]; exact h.timer
    · rw [hlink]; simp
    · rw [hlink]; simp
    · rw [State.heard_sensorLink]; exact h.message
    · rw [hlink]; exact h.broadcast
  · rwa [hq]

theorem State.LinkRuns.enqueue {s : State} (h : s.LinkRuns) (f : Frame) : (s.enqueue f).LinkRuns := by
  obtain ⟨hroom, hq⟩ | ⟨-, hq⟩ := State.enqueue_cases f s
  · rw [hq]
    exact { h with queue := by simp only [List.length_append, List.length_singleton]; omega }
  · rw [hq]
    exact h.of_eq (by simp) (by simp)

/-- A frame that is taken was heard on an empty queue, or leaves the queue (R187). -/
theorem State.LinkRuns.takeFrame {s u : State} {f : Frame} (h : s.LinkRuns) (htake : s.takeFrame f = some u) :
    u.LinkRuns := by
  obtain ⟨-, ⟨-, rfl⟩ | ⟨rest, hqueue, rfl⟩⟩ := State.takeFrame_some htake
  · exact h.heard _
  · have hlength := h.queue
    rw [hqueue, List.length_cons] at hlength
    exact { h with queue := by dsimp only; omega }

theorem State.LinkRuns.respond {s : State} (h : s.LinkRuns) (q : Requester) (code tag : Byte) (a : Reply) :
    (s.respond q code tag a).LinkRuns := by
  refine { h with response := ?_ }
  rintro v ⟨⟩
  exact Nat.le_refl _

theorem State.LinkRuns.responseGone {s : State} (h : s.LinkRuns) : s.responseGone.LinkRuns := by
  rw [State.responseGone_eq]
  refine { h with response := fun v hv => ?_ }
  obtain ⟨m, -, hm⟩ := Option.bind_eq_some_iff.mp hv
  obtain ⟨d, -, rfl⟩ := Option.map_eq_some_iff.mp hm
  exact Nat.le_refl _

theorem State.LinkRuns.sendResponse {s : State} (h : s.LinkRuns) : s.sendResponse.LinkRuns := by
  obtain ⟨-, hsend⟩ | ⟨-, hsend⟩ := s.sendResponse_cases
  · rwa [hsend]
  · rw [hsend]
    exact h.responseGone

theorem State.statusBytes_length (s : State) : s.statusBytes.length = 42 := by
  simp [State.statusBytes, State.sideStatus]

theorem State.LinkRuns.formBroadcast {s : State} (h : s.LinkRuns) : s.formBroadcast.LinkRuns := by
  refine { h with timer := Nat.le_refl _, broadcast := ?_ }
  rintro b ⟨⟩
  exact s.statusBytes_length

theorem State.LinkRuns.expireSupervision {s : State} (h : s.LinkRuns) : s.expireSupervision.LinkRuns := by
  unfold State.expireSupervision
  split
  · exact h
  · rename_i hsup
    rw [Option.isNone_iff_eq_none] at hsup
    split
    · exact State.LinkRuns.of_eq (s := { s with link.supervision := none, link.linkLoss := true })
        { h with supervision := by simp, loss := by simp } (by simp) (by simp)
    · exact { h with
        supervision := by simp [Config.supervisionMs]
        loss := ⟨by simp, fun hloss => absurd (h.loss.mpr hloss) hsup⟩ }

theorem State.LinkRuns.governorInterval {s : State} (h : s.LinkRuns) : s.governorInterval.LinkRuns := by
  refine { h with message := ?_ }
  rintro m ⟨⟩
  simp [ceilingBytes]

/-- Every effect keeps the law of the links. -/
theorem Effect.keepsLink {s t : State} {i : Instr} (h : Effect s i t) (hs : s.LinkRuns) : t.LinkRuns := by
  cases h with
  | restartArranged => exact { hs with }
  | arrived => exact (hs.heard _).enqueue _
  | malformedAnswered hu => exact (hs.takeFrame hu).respond _ _ _ _
  | responseLeft => exact hs.sendResponse
  | responseDiscarded => exact hs.responseGone
  | broadcastFormed => exact hs.formBroadcast
  | broadcastLeft => exact { hs with broadcast := by simp }
  | supervisionExpired => exact hs.expireSupervision
  | ceilingMessageLeft => exact { hs with message := by simp }
  | governorIntervalEnded =>
    have hinterval := hs.governorInterval
    exact { hinterval with }
  | _ => exact hs.of_eq (by simp) (by simp)

end Sys2Proof.Machine
end

section
/-! What every command does to the material account and the conveyor's own records (R155, R156 to R173), and with the
governor's law O59. -/
namespace Sys2Proof.Machine

/-! ### The conveyor's law (R155, R159, R165, R171) -/

/-- The ranges of the geometry record that the conveyor works with (R32). -/
theorem Geometry.belt_of_inRange {g : Geometry} (h : g.inRange = true) :
    g.beltMin ≤ 200 ∧ 200 ≤ g.beltMax ∧ g.beltMax ≤ 500 ∧ g.housingCapacity ≤ 120000 ∧
      10 ≤ g.runOnTime ∧ g.runOnTime ≤ 300 := by
  simp only [Geometry.inRange, Bool.and_eq_true, decide_eq_true_eq] at h
  omega

/-- The law of the conveyor's records, with a name for each clause. -/
structure Conveyor.Ok (g : Geometry) (c : Conveyor) : Prop where
  account : c.milled = c.delivered + c.fill + c.spill
  fill : c.fill ≤ g.housingCapacity
  milled : c.milled ≤ 999999999999
  counter : c.truckCounter ≤ 999999999
  target : c.truckTarget ≤ 40000
  block : c.blockCount ≤ 9
  fixedLow : g.beltMin ≤ c.fixedSpeed
  fixedHigh : c.fixedSpeed ≤ g.beltMax
  speed : c.beltSpeed ≤ 500
  needed : ∀ v ∈ c.neededSpeed, v ≤ 500
  standing : c.state = .stopped ∨ c.state = .held ∨ c.state = .blocked → c.beltSpeed = 0 ∧ c.blockCount = 0
  runOn : c.state = .runOn → c.runOnSpeed = some c.beltSpeed ∧ 1 ≤ c.runOnCount ∧ c.runOnCount ≤ 300
  noRunOn : c.state ≠ .runOn → c.runOnSpeed = none ∧ c.runOnCount = 0

theorem materialOk_iff {s : State} : MaterialOk s ↔ s.conveyor.Ok s.station.geometry := by
  constructor
  · rintro ⟨h1, h2, h3, h4, h5, h6, h7, h8, h9, h10, h11, h12⟩
    refine ⟨h1, h2, h3, h4, h5, h6, h7, h8, h9, h10, h11, fun hr => ?_, fun hr => ?_⟩
    · rwa [if_pos hr] at h12
    · rwa [if_neg hr] at h12
  · intro h
    refine ⟨h.account, h.fill, h.milled, h.counter, h.target, h.block, h.fixedLow, h.fixedHigh, h.speed, h.needed,
      h.standing, ?_⟩
    split
    · exact h.runOn ‹_›
    · exact h.noRunOn ‹_›

theorem MaterialOk.of_eq {s t : State} (h : MaterialOk s) (hc : t.conveyor = s.conveyor)
    (hg : t.station.geometry = s.station.geometry) : MaterialOk t := by
  rw [materialOk_iff, hc, hg]
  exact materialOk_iff.mp h

section
variable {g : Geometry} {c : Conveyor}

/-! ### Entering a state (R159 to R162, R168, R170, R171) -/

theorem Conveyor.Ok.runningSpeed_le (h : c.Ok g) (hg : g.inRange = true) : c.runningSpeed g.beltMin ≤ 500 := by
  obtain ⟨hmin, -, hmax, -⟩ := Geometry.belt_of_inRange hg
  unfold Conveyor.runningSpeed
  cases c.beltMode with
  | fixed => exact Nat.le_trans h.fixedHigh hmax
  | auto =>
    cases hn : c.neededSpeed with
    | none => exact Nat.le_trans hmin (by decide)
    | some v => exact h.needed v hn

theorem Conveyor.Ok.enterRunning (h : c.Ok g) (hg : g.inRange = true) : (c.enterRunning g.beltMin).Ok g :=
  { h with
    speed := h.runningSpeed_le hg
    standing := by simp [Conveyor.enterRunning]
    runOn := by simp [Conveyor.enterRunning]
    noRunOn := by simp [Conveyor.enterRunning] }

theorem Conveyor.Ok.enterRunOn {time : Nat} (h : c.Ok g) (h1 : 1 ≤ time) (h2 : time ≤ 300) : (c.enterRunOn time).Ok g :=
  { h with
    standing := by simp [Conveyor.enterRunOn]
    runOn := fun _ => ⟨rfl, h1, h2⟩
    noRunOn := by simp [Conveyor.enterRunOn] }

theorem Conveyor.Ok.stand {dest : ConveyorState} (h : c.Ok g) (hdest : dest ≠ .runOn) : (c.stand dest).Ok g :=
  { h with
    block := Nat.zero_le _
    speed := Nat.zero_le _
    standing := fun _ => ⟨rfl, rfl⟩
    runOn := fun hr => absurd hr hdest
    noRunOn := fun _ => ⟨rfl, rfl⟩ }

theorem Conveyor.Ok.inCut (h : c.Ok g) (b : Bool) : ({ c with inCut := b } : Conveyor).Ok g := { h with }

/-- The belt speed of a state is in range, and that of a run-on is the one it was entered with (R162). -/
theorem Conveyor.Ok.speedNow (h : c.Ok g) (hg : g.inRange = true) :
    ({ c with beltSpeed := c.speedNow g.beltMin } : Conveyor).Ok g := by
  by_cases hrun : c.state = .running
  · have hspeed : c.speedNow g.beltMin ≤ 500 := by
      simp only [Conveyor.speedNow, hrun]
      exact h.runningSpeed_le hg
    exact { h with speed := hspeed, standing := by simp [hrun], runOn := by simp [hrun] }
  · have hsame : c.speedNow g.beltMin = c.beltSpeed := by
      cases hstate : c.state with
      | running => exact absurd hstate hrun
      | runOn => simp [Conveyor.speedNow, hstate, (h.runOn hstate).1]
      | stopped | held | blocked => simp [Conveyor.speedNow, hstate, (h.standing (by simp [hstate])).1]
    rw [hsame]
    exact h

/-! ### The account (R164, R165, R173) -/

theorem bringWithinNat_within {lo hi : Nat} (v : Nat) (h : lo ≤ hi) :
    lo ≤ bringWithinNat lo hi v ∧ bringWithinNat lo hi v ≤ hi := by
  unfold bringWithinNat
  split
  · exact ⟨Nat.le_refl _, h⟩
  · split <;> omega

theorem Conveyor.Ok.clearTotals (h : c.Ok g) (hg : g.inRange = true) : c.clearTotals.Ok g := by
  obtain ⟨-, -, -, hhousing, -⟩ := Geometry.belt_of_inRange hg
  have hfill := h.fill
  exact { h with
    account := by simp [Conveyor.clearTotals]
    milled := by simp only [Conveyor.clearTotals]; omega }

/-- What flows in is delivered, kept or spilled: the account stays balanced (R165). -/
theorem Conveyor.Ok.account_step (h : c.Ok g) (hg : g.inRange = true) (q cap : Nat) :
    (c.account q cap g.housingCapacity).Ok g := by
  have hbalance := h.account
  obtain ⟨-, -, -, hhousing, -⟩ := Geometry.belt_of_inRange hg
  unfold Conveyor.account
  dsimp only
  split
  · refine { h with account := ?_, fill := Nat.min_le_right _ _, milled := ?_, counter := Nat.min_le_left _ _ }
    · simp [Conveyor.clearTotals]
    · simp only [Conveyor.clearTotals]
      omega
  · rename_i hmax
    refine { h with
      account := ?_, fill := Nat.min_le_right _ _, milled := Nat.not_lt.mp hmax, counter := Nat.min_le_left _ _ }
    dsimp only
    omega

end

/-! ### The stages of the interval (R156) -/

section
variable {s : State}

theorem materialOk_mapConveyor {f : Conveyor → Conveyor} (h : (f s.conveyor).Ok s.station.geometry) :
    MaterialOk (s.mapConveyor f) := materialOk_iff.mpr h

theorem MaterialOk.conveyorCut (h : MaterialOk s) (hg : s.station.geometry.inRange = true) : MaterialOk s.conveyorCut := by
  have hc := materialOk_iff.mp h
  obtain ⟨-, -, -, -, htime, htime'⟩ := Geometry.belt_of_inRange hg
  refine materialOk_mapConveyor ?_
  dsimp only
  split
  · split
    · exact (hc.inCut _).enterRunning hg
    · exact hc.inCut _
  · exact (hc.inCut _).enterRunning hg
  · exact (hc.inCut _).enterRunOn (by omega) htime'
  · exact hc.inCut _

theorem MaterialOk.conveyorBlock (h : MaterialOk s) : MaterialOk s.conveyorBlock := by
  have hc := materialOk_iff.mp h
  unfold State.conveyorBlock
  dsimp only
  split
  · rename_i hturning
    split
    · exact MaterialOk.of_eq (materialOk_mapConveyor (hc.stand (dest := .blocked) (by decide))) (by simp) (by simp)
    · rename_i hcount
      refine materialOk_mapConveyor { hc with block := ?_, standing := fun hstands => ?_ }
      · simp only [Config.blockIntervals, Nat.not_le] at hcount
        dsimp only
        omega
      · simp only [Conveyor.turning, Bool.or_eq_true, decide_eq_true_eq] at hturning
        obtain hs | hs := hturning <;> simp [hs] at hstands
  · exact h

theorem MaterialOk.conveyorRunOn (h : MaterialOk s) (was : ConveyorState) : MaterialOk (s.conveyorRunOn was) := by
  have hc := materialOk_iff.mp h
  unfold State.conveyorRunOn
  split
  · rename_i hrun
    simp only [Bool.and_eq_true, decide_eq_true_eq] at hrun
    obtain ⟨hspeed, hlow, hhigh⟩ := hc.runOn hrun.2
    split
    · exact materialOk_mapConveyor (hc.stand (by decide))
    · refine materialOk_mapConveyor { hc with
        runOn := fun _ => ⟨hspeed, ?_, ?_⟩, noRunOn := fun hnot => absurd hrun.2 hnot } <;> dsimp only <;> omega
  · exact h

theorem MaterialOk.conveyorSpeed (h : MaterialOk s) (hg : s.station.geometry.inRange = true) :
    MaterialOk s.conveyorSpeed := by
  have hc := materialOk_iff.mp h
  obtain ⟨hmin, hmax, hmax', -⟩ := Geometry.belt_of_inRange hg
  have hneeded : neededSpeedOf s.station.geometry s.inflow ≤ 500 :=
    Nat.le_trans (bringWithinNat_within _ (by omega)).2 hmax'
  -- The records once the inflow and the needed speed are formed.
  have hformed : ({ s.conveyor with
      lastInflow := s.inflow, neededSpeed := some (neededSpeedOf s.station.geometry s.inflow) } : Conveyor).Ok
      s.station.geometry := { hc with needed := by rintro v ⟨⟩; exact hneeded }
  exact materialOk_mapConveyor (hformed.speedNow hg)

theorem MaterialOk.conveyorFill (h : MaterialOk s) (hg : s.station.geometry.inRange = true) :
    MaterialOk s.conveyorFill := by
  have hstep := (materialOk_iff.mp h).account_step hg s.conveyor.lastInflow
    (capacityOf s.conveyor.beltSpeed s.station.geometry.beltLoad)
  refine MaterialOk.of_eq (materialOk_mapConveyor hstep) ?_ ?_ <;> simp only [State.conveyorFill] <;> split <;> simp

theorem MaterialOk.reviewLatch (h : MaterialOk s) : MaterialOk s.reviewLatch := by
  have hc := materialOk_iff.mp h
  rw [materialOk_iff]
  simp only [State.reviewLatch, State.tellFillHigh_conveyor, State.tellFillHigh_station]
  exact { hc with }

theorem MaterialOk.truckDecision (h : MaterialOk s) : MaterialOk s.truckDecision := by
  unfold State.truckDecision
  split
  · exact materialOk_mapConveyor ((materialOk_iff.mp h).stand (by decide))
  · exact h

theorem MaterialOk.conveyorInterval (h : MaterialOk s) (hg : s.station.geometry.inRange = true) :
    MaterialOk s.conveyorInterval := by
  have hfirst : MaterialOk s.conveyorFirst := (h.conveyorCut hg).conveyorBlock
  have hspeed : MaterialOk (s.conveyorFirst.conveyorRunOn s.conveyor.state).conveyorSpeed :=
    (hfirst.conveyorRunOn _).conveyorSpeed (by simpa using hg)
  exact ((hspeed.conveyorFill (by simpa using hg)).reviewLatch).truckDecision

/-! ### The requests (R35, R160 to R173) -/

theorem MaterialOk.startBelt (h : MaterialOk s) (hg : s.station.geometry.inRange = true) : MaterialOk s.startBelt :=
  materialOk_mapConveyor ((materialOk_iff.mp h).enterRunning hg)

theorem MaterialOk.takeBeltMode {m : BeltMode} {v : Nat} (h : MaterialOk s) (hg : s.station.geometry.inRange = true)
    (hv : v = s.conveyor.fixedSpeed ∨
      ∃ w, v = bringWithinNat s.station.geometry.beltMin s.station.geometry.beltMax w) :
    MaterialOk (s.takeBeltMode m v) := by
  have hc := materialOk_iff.mp h
  obtain ⟨hmin, hmax, -⟩ := Geometry.belt_of_inRange hg
  have hrange : s.station.geometry.beltMin ≤ v ∧ v ≤ s.station.geometry.beltMax := by
    obtain rfl | ⟨w, rfl⟩ := hv
    · exact ⟨hc.fixedLow, hc.fixedHigh⟩
    · exact bringWithinNat_within _ (by omega)
  have hset : ({ s.conveyor with beltMode := m, fixedSpeed := v } : Conveyor).Ok s.station.geometry :=
    { hc with fixedLow := hrange.1, fixedHigh := hrange.2 }
  refine materialOk_mapConveyor ?_
  dsimp only
  split
  · rename_i hrun
    exact { hset with speed := hset.runningSpeed_le hg, standing := by simp [hrun], runOn := by simp [hrun] }
  · exact hset

theorem MaterialOk.truckReady (h : MaterialOk s) (hg : s.station.geometry.inRange = true) (p : List Byte) :
    MaterialOk (truckReady p s).1 := by
  have hemptied : MaterialOk ({ s with conveyor.truckCounter := 0 } : State).tellTruckFull :=
    MaterialOk.of_eq (materialOk_iff.mpr { materialOk_iff.mp h with counter := Nat.zero_le _ } :
      MaterialOk { s with conveyor.truckCounter := 0 }) (by simp) (by simp)
  unfold Machine.truckReady
  dsimp only
  split
  · exact hemptied.startBelt (by simpa using hg)
  · exact hemptied

theorem MaterialOk.setTarget {v : Nat} (h : MaterialOk s) (hv : v ≤ 40000) :
    MaterialOk ({ s with conveyor.truckTarget := v } : State).tellTruckFull.truckDecision :=
  MaterialOk.truckDecision (MaterialOk.of_eq (materialOk_iff.mpr { materialOk_iff.mp h with target := hv } :
    MaterialOk { s with conveyor.truckTarget := v }) (by simp) (by simp))

/-- A smaller housing spills what it no longer holds, and the fixed speed follows the belt's limits (R35). -/
theorem MaterialOk.storeGeometry {g : Geometry} (h : MaterialOk s) (hg : g.inRange = true) :
    MaterialOk (s.storeGeometry g) := by
  have hc := materialOk_iff.mp h
  obtain ⟨hmin, hmax, -⟩ := Geometry.belt_of_inRange hg
  have hfixed := bringWithinNat_within s.conveyor.fixedSpeed (show g.beltMin ≤ g.beltMax by omega)
  have hbalance := hc.account
  refine MaterialOk.reviewLatch ?_
  unfold State.spillExcess
  dsimp only
  split
  · refine MaterialOk.of_eq (s := { s with
      station.geometry := g
      conveyor := { s.conveyor with
        fixedSpeed := bringWithinNat g.beltMin g.beltMax s.conveyor.fixedSpeed
        fill := g.housingCapacity, spill := s.conveyor.spill + (s.conveyor.fill - g.housingCapacity) } })
      (materialOk_iff.mpr { hc with
        account := ?_, fill := Nat.le_refl _, fixedLow := hfixed.1, fixedHigh := hfixed.2 }) rfl rfl
    dsimp only
    omega
  · rename_i hfill
    exact materialOk_iff.mpr { hc with fill := Nat.not_lt.mp hfill, fixedLow := hfixed.1, fixedHigh := hfixed.2 }

end

/-! ### Every command -/

/-- A count moves S, f and the validity, and keeps S and f in their ranges (R37, R39, R40). -/
theorem StationCounter.accumulate_eq (d : Int) (c : StationCounter) : ∃ (st f : Nat) (v : Bool),
    c.accumulate d = { c with station := st, fine := f, valid := v } ∧
      (c.station ≤ 9999999 → c.fine ≤ 9999 → -5000 ≤ d → d ≤ 5000 → st ≤ 9999999 ∧ f ≤ 9999) := by
  have hcarry : Config.carryAt = 10000 := rfl
  have hmax : Config.stationMax = 9999999 := rfl
  unfold StationCounter.accumulate StationCounter.pin
  dsimp only
  split
  · split
    · exact ⟨_, _, c.valid, rfl, by omega⟩
    · exact ⟨_, _, _, rfl, by omega⟩
  · split
    · split
      · exact ⟨_, _, c.valid, rfl, by omega⟩
      · exact ⟨_, _, _, rfl, by omega⟩
    · split
      · exact ⟨_, _, _, rfl, by omega⟩
      · exact ⟨c.station, _, c.valid, rfl, by omega⟩

/-- A count leaves the geometry record and the drum class as they are. -/
theorem StationCounter.count_geometry (e : EncoderInput) (c : StationCounter) :
    (c.count e).geometry = c.geometry ∧ (c.count e).drumClass = c.drumClass := by
  unfold StationCounter.count
  dsimp only
  obtain ⟨st, f, v, hcount, -⟩ := StationCounter.accumulate_eq (c.sense.orient (c.travel e))
    (({ c with accum := c.accum + c.travel e } : StationCounter).movePhase e)
  rw [hcount]
  cases e <;> exact ⟨rfl, rfl⟩

theorem State.fixAt_station (st : Nat) (s : State) :
    (s.fixAt st).station = { s.station with station := st, fine := 0, valid := true } := by
  simp [State.fixAt]

theorem State.storeZone_station (z : Zone) (zs : List Zone) (s : State) : (s.storeZone z zs).station = s.station := by
  unfold State.storeZone
  dsimp only
  split <;> simp

theorem State.storeBank_station (n : BankName) (b : Bank) (s : State) : (s.storeBank n b).station = s.station := by
  unfold State.storeBank
  split <;> simp

theorem State.markSuspended_station (n : Nat) (v : Bool) (s : State) : (s.markSuspended n v).station = s.station := rfl

theorem Effect.keepsMaterial {s t : State} {i : Instr} (h : Effect s i t) (hs : MaterialOk s) (hst : StationOk s) :
    MaterialOk t := by
  have hg := hst.2.2
  obtain ⟨-, -, -, -, htime, htime'⟩ := Geometry.belt_of_inRange hg
  cases h with
  | geometryStored hrange => exact hs.storeGeometry hrange
  | beltStarted => exact hs.startBelt hg
  | beltRunsOn => exact materialOk_mapConveyor ((materialOk_iff.mp hs).enterRunOn (by omega) htime')
  | beltReleased | beltHeld => exact materialOk_mapConveyor ((materialOk_iff.mp hs).stand (by decide))
  | beltModeTaken hv => exact hs.takeBeltMode hg hv
  | truckReadied => exact hs.truckReady hg _
  | targetSet hv => exact hs.setTarget hv
  | blockCleared =>
    exact MaterialOk.of_eq (materialOk_mapConveyor ((materialOk_iff.mp hs).stand (dest := .stopped) (by decide)))
      (by simp) (by simp)
  | totalsCleared => exact materialOk_mapConveyor ((materialOk_iff.mp hs).clearTotals hg)
  | conveyorIntervalEnded | runOnEnded => exact MaterialOk.of_eq (hs.conveyorInterval hg) rfl rfl
  | counted => exact hs.of_eq (by simp) (by simp [StationCounter.count_geometry])
  | stationFixed => exact hs.of_eq (by simp) (by simp [State.fixAt_station])
  | malformedAnswered hu =>
    obtain ⟨-, hstation, -, -, -, -, -, hconveyor, -⟩ := State.takeFrame_keepsBlocks hu
    exact hs.of_eq hconveyor (congrArg StationCounter.geometry hstation)
  | zoneStored | zoneAmended => exact hs.of_eq (by simp) (by simp [State.storeZone_station])
  | bankStored => exact hs.of_eq (by simp) (by simp [State.storeBank_station])
  | zoneSuspended | zoneReinstated => exact hs.of_eq (by simp) (by simp [State.markSuspended_station])
  | _ => exact hs.of_eq (by simp) (by simp)

end Sys2Proof.Machine
end

section
/-! The laws of the notices over the shared operations (R177 to R180): the causes that a change of the state may have
left behind, and how the re-evaluations bring them along. -/
namespace Sys2Proof.Machine

/-! ### Notices that follow the state but for some causes -/

/-- ALERTn follows the latches and masks, a present cause keeps its latch, and every cause but those in `D` is
present exactly while its condition holds. -/
structure NoticesFollow (D : List Notice) (s : State) : Prop where
  alert : s.AlertFollows
  latched : ∀ n, (s.notice n).cause = true → (s.notice n).latch = true
  causes : ∀ n, n ∉ D → ((s.notice n).cause = true ↔ s.condition n)

theorem noticesFollow_of_laws {s : State} (hrun : s.heldReset = none) (hc : CausesOk s) (ha : AlertOk s) :
    NoticesFollow [] s where
  alert := by
    rw [AlertOk, hrun] at ha
    simpa [State.AlertFollows] using ha
  latched n := (hc n).2
  causes n _ := (hc n).1

theorem NoticesFollow.causesOk {s : State} (h : NoticesFollow [] s) : CausesOk s :=
  fun n => ⟨h.causes n List.not_mem_nil, h.latched n⟩

theorem NoticesFollow.alertOk {s : State} (h : NoticesFollow [] s) (hrun : s.heldReset = none) : AlertOk s := by
  rw [AlertOk, hrun]
  simpa [State.AlertFollows] using h.alert

theorem State.AlertFollows.of_eq {s t : State} (h : s.AlertFollows) (heq : t.notices = s.notices) : t.AlertFollows := by
  simpa [State.AlertFollows, State.notice, heq] using h

/-- The state changes apart from its notices: the causes whose conditions moved are left behind. -/
theorem NoticesFollow.change {s t : State} {D D' : List Notice} (h : NoticesFollow D s) (hn : t.notices = s.notices)
    (hc : ∀ n, n ∉ D' → n ∉ D ∧ (t.condition n ↔ s.condition n)) : NoticesFollow D' t := by
  have hnotice : ∀ n, t.notice n = s.notice n := fun n => by simp [State.notice, hn]
  refine ⟨h.alert.of_eq hn, fun n => ?_, fun n hD => ?_⟩
  · rw [hnotice]
    exact h.latched n
  · rw [hnotice, (hc n hD).2]
    exact h.causes n (hc n hD).1

/-- A change that no condition depends on. -/
theorem NoticesFollow.keep {s t : State} {D : List Notice} (h : NoticesFollow D s) (hn : t.notices = s.notices)
    (hc : ∀ n, n ∉ D → (t.condition n ↔ s.condition n)) : NoticesFollow D t :=
  h.change hn fun n hD => ⟨hD, hc n hD⟩

/-- No condition reads the notices. -/
theorem State.condition_congr {s t : State} (hleft : t.left = s.left) (hright : t.right = s.right)
    (hvalid : t.station.valid = s.station.valid) (hmonitor : t.monitor = s.monitor) (hconveyor : t.conveyor = s.conveyor)
    (hloss : t.link.linkLoss = s.link.linkLoss) (n : Notice) : t.condition n ↔ s.condition n := by
  have hside : ∀ x, t.side x = s.side x := fun x => by cases x <;> assumption
  have hrole : ∀ r, t.roleChannel r = s.roleChannel r := fun r => by
    simp [State.roleChannel, State.channel, hmonitor]
  cases n <;> simp only [State.condition, hside, hrole, hvalid, hconveyor, hloss]

theorem State.raiseNotice_condition (s : State) (k n : Notice) : (s.raiseNotice k).condition n ↔ s.condition n :=
  State.condition_congr rfl rfl rfl rfl rfl rfl n

theorem State.tellCause_condition (s : State) (k : Notice) (b : Bool) (n : Notice) :
    (s.tellCause k b).condition n ↔ s.condition n :=
  State.condition_congr (by simp) (by simp) (by simp) (by simp) (by simp) (by simp) n

/-- An event notice that is raised keeps every cause (R178). -/
theorem NoticesFollow.raise {s : State} {D : List Notice} (h : NoticesFollow D s) (k : Notice) :
    NoticesFollow D (s.raiseNotice k) := by
  have hcause : ∀ n, ((s.raiseNotice k).notice n).cause = (s.notice n).cause := fun n => by
    by_cases hk : n = k
    · subst hk
      simp [State.raiseNotice]
    · rw [State.raiseNotice_notice_ne _ hk]
  refine ⟨State.updateAlert_alertFollows _, fun n hn => ?_, fun n hD => ?_⟩
  · by_cases hk : n = k
    · subst hk
      simp [State.raiseNotice]
    · rw [State.raiseNotice_notice_ne _ hk] at hn ⊢
      exact h.latched n hn
  · rw [hcause, State.raiseNotice_condition]
    exact h.causes n hD

theorem NoticesFollow.raiseTimes {D : List Notice} (n : Notice) (count : Nat) {s : State} (h : NoticesFollow D s) :
    NoticesFollow D (s.raiseTimes n count) := by
  induction count generalizing s with
  | zero => exact h
  | succ count ih => exact ih (h.raise n)

theorem State.setNotice_alertFollows {s : State} {n : Notice} {v : NoticeRecord} (h : s.AlertFollows)
    (hlatch : v.latch = (s.notice n).latch) (hmask : v.masked = (s.notice n).masked) :
    (s.setNotice n v).AlertFollows := by
  have hsame : ∀ k, ((s.setNotice n v).notice k).latch = (s.notice k).latch ∧
      ((s.setNotice n v).notice k).masked = (s.notice k).masked := fun k => by
    by_cases hk : k = n
    · subst hk
      simp [hlatch, hmask]
    · simp [State.setNotice_notice_ne _ hk]
  have hline : (s.setNotice n v).notices.alertLow = s.notices.alertLow := rfl
  simpa only [State.AlertFollows, hsame, hline] using h

/-- A cause that is told follows again, and the others are left as they were (R179). -/
theorem NoticesFollow.tell {s : State} {D : List Notice} {k : Notice} {b : Bool} (h : NoticesFollow (k :: D) s)
    (hb : b = true ↔ s.condition k) : NoticesFollow D (s.tellCause k b) := by
  obtain ⟨hb', hcause, heq⟩ | ⟨hb', -, heq⟩ | ⟨hb', heq⟩ := State.tellCause_cases k b s
  · rw [heq]
    refine ⟨h.alert, h.latched, fun n hD => ?_⟩
    by_cases hk : n = k
    · subst hk
      exact ⟨fun _ => hb.mp hb', fun _ => hcause⟩
    · exact h.causes n (by simp [hk, hD])
  · rw [heq]
    refine ⟨State.updateAlert_alertFollows _, fun n hn => ?_, fun n hD => ?_⟩
    · by_cases hk : n = k
      · subst hk
        simp
      · rw [State.updateAlert_notice, State.setNotice_notice_ne _ hk] at hn ⊢
        exact h.latched n hn
    · rw [← heq, State.tellCause_condition, heq]
      by_cases hk : n = k
      · subst hk
        simpa using hb.mp hb'
      · rw [State.updateAlert_notice, State.setNotice_notice_ne _ hk]
        exact h.causes n (by simp [hk, hD])
  · rw [heq]
    refine ⟨State.setNotice_alertFollows h.alert rfl rfl, fun n hn => ?_, fun n hD => ?_⟩
    · by_cases hk : n = k
      · subst hk
        simp at hn
      · rw [State.setNotice_notice_ne _ hk] at hn ⊢
        exact h.latched n hn
    · rw [← heq, State.tellCause_condition, heq]
      by_cases hk : n = k
      · subst hk
        simp only [State.setNotice_notice_same, Bool.false_eq_true, false_iff]
        exact fun hcond => Bool.noConfusion (hb'.symm.trans (hb.mpr hcond))
      · rw [State.setNotice_notice_ne _ hk]
        exact h.causes n (by simp [hk, hD])

/-- A cause that already follows may be told again. -/
theorem NoticesFollow.weaken {s : State} {D D' : List Notice} (h : NoticesFollow D s) (hsub : D ⊆ D') :
    NoticesFollow D' s :=
  ⟨h.alert, h.latched, fun n hD => h.causes n fun hmem => hD (hsub hmem)⟩

/-! ### The re-evaluations tell the conditions -/

section
variable {s : State} {D : List Notice}

theorem State.planGap_iff (s : State) : s.planGap = true ↔ s.condition .planGap := by
  simp only [State.planGap, State.condition, Bool.or_eq_true, Bool.and_eq_true, decide_eq_true_eq]
  constructor
  · rintro (h | h)
    · exact ⟨.left, h⟩
    · exact ⟨.right, h⟩
  · rintro ⟨x, h⟩
    cases x
    · exact .inl h
    · exact .inr h

theorem State.anyAuto_iff (s : State) : s.anyAuto = true ↔ ∃ x, (s.side x).state = .auto := by
  simp only [State.anyAuto, Bool.or_eq_true, decide_eq_true_eq]
  constructor
  · rintro (h | h)
    · exact ⟨.left, h⟩
    · exact ⟨.right, h⟩
  · rintro ⟨x, h⟩
    cases x
    · exact .inl h
    · exact .inr h

theorem State.stationLost_iff (s : State) : s.stationLost = true ↔ s.condition .stationInvalid := by
  simp only [State.stationLost, Bool.and_eq_true, Bool.not_eq_true', s.anyAuto_iff]
  rfl

theorem State.sensorLost_iff (s : State) : s.sensorLost = true ↔ s.condition .sensorLost := by
  simp only [State.sensorLost, List.any_eq_true, State.condition]
  constructor
  · rintro ⟨r, -, hr⟩
    cases hc : s.roleChannel r with
    | none => simp [hc] at hr
    | some c => exact ⟨r, c, hc, by simpa [hc] using hr⟩
  · rintro ⟨r, c, hc, hne⟩
    refine ⟨r, by cases r <;> decide, ?_⟩
    rw [Option.mem_def.mp hc]
    simpa using hne

theorem State.sideFrozen_iff (s : State) : s.sideFrozen = true ↔ s.condition .sideFrozen := by
  simp only [State.sideFrozen, State.condition, Bool.or_eq_true, decide_eq_true_eq]
  constructor
  · rintro (h | h)
    · exact ⟨.left, h⟩
    · exact ⟨.right, h⟩
  · rintro ⟨x, h⟩
    cases x
    · exact .inl h
    · exact .inr h

theorem State.truckFull_iff (s : State) : s.truckFull = true ↔ s.condition .truckFull := by
  simp [State.truckFull, State.condition]

theorem NoticesFollow.tellPlanGap (h : NoticesFollow (.planGap :: D) s) : NoticesFollow D s.tellPlanGap :=
  h.tell s.planGap_iff

theorem NoticesFollow.tellStationInvalid (h : NoticesFollow (.stationInvalid :: D) s) :
    NoticesFollow D s.tellStationInvalid :=
  h.tell s.stationLost_iff

theorem NoticesFollow.tellSensorLost (h : NoticesFollow (.sensorLost :: D) s) : NoticesFollow D s.tellSensorLost :=
  h.tell s.sensorLost_iff

theorem NoticesFollow.tellSideFrozen (h : NoticesFollow (.sideFrozen :: D) s) : NoticesFollow D s.tellSideFrozen :=
  h.tell s.sideFrozen_iff

theorem NoticesFollow.tellFillHigh (h : NoticesFollow (.fillHigh :: D) s) : NoticesFollow D s.tellFillHigh :=
  h.tell Iff.rfl

theorem NoticesFollow.tellTruckFull (h : NoticesFollow (.truckFull :: D) s) : NoticesFollow D s.tellTruckFull :=
  h.tell s.truckFull_iff

theorem NoticesFollow.tellBeltBlocked (h : NoticesFollow (.beltBlocked :: D) s) : NoticesFollow D s.tellBeltBlocked :=
  h.tell decide_eq_true_iff

theorem NoticesFollow.tellLinkLost (h : NoticesFollow (.linkLost :: D) s) : NoticesFollow D s.tellLinkLost :=
  h.tell Iff.rfl

/-! ### Changes of one side -/

theorem State.exists_side_iff {s t : State} {x : Side} {p : SideLoop → Prop}
    (hother : t.side (otherSide x) = s.side (otherSide x)) (h : p (t.side x) ↔ p (s.side x)) :
    (∃ y, p (t.side y)) ↔ ∃ y, p (s.side y) := by
  refine exists_congr fun y => ?_
  by_cases hy : y = x
  · rw [hy]
    exact h
  · have hyx : y = otherSide x := by cases x <;> cases y <;> first | rfl | exact absurd rfl hy
    rw [hyx, hother]

/-- What a change of one side moves of the conditions: PLAN_GAP, STATION_INVALID and SIDE_FROZEN, by its state and
its target source. -/
theorem State.condition_side {s t : State} {x : Side} (hother : t.side (otherSide x) = s.side (otherSide x))
    (hvalid : t.station.valid = s.station.valid) (hmonitor : t.monitor = s.monitor) (hconveyor : t.conveyor = s.conveyor)
    (hloss : t.link.linkLoss = s.link.linkLoss) (n : Notice)
    (hgap : n = .planGap → (((t.side x).state = .auto ∧ (t.side x).context.source = .hold) ↔
      ((s.side x).state = .auto ∧ (s.side x).context.source = .hold)))
    (hauto : n = .stationInvalid → ((t.side x).state = .auto ↔ (s.side x).state = .auto))
    (hfrozen : n = .sideFrozen → ((t.side x).state = .frozen ↔ (s.side x).state = .frozen)) :
    t.condition n ↔ s.condition n := by
  have hrole : ∀ r, t.roleChannel r = s.roleChannel r := fun r => by
    simp [State.roleChannel, State.channel, hmonitor]
  cases n with
  | planGap => exact State.exists_side_iff (p := fun d => d.state = .auto ∧ d.context.source = .hold) hother (hgap rfl)
  | stationInvalid =>
    simp only [State.condition, hvalid]
    exact and_congr_right fun _ => State.exists_side_iff (p := fun d => d.state = .auto) hother (hauto rfl)
  | sideFrozen => exact State.exists_side_iff (p := fun d => d.state = .frozen) hother (hfrozen rfl)
  | sensorLost => simp only [State.condition, hrole]
  | fillHigh | truckFull | beltBlocked => simp only [State.condition, hconveyor]
  | linkLost => simp only [State.condition, hloss]
  | _ => exact Iff.rfl

/-- A side is rewritten with the state and the target source it had, or without being in AUTO or FROZEN before and
after. -/
theorem NoticesFollow.setSide (h : NoticesFollow D s) {x : Side} {v : SideLoop}
    (hgap : (v.state = .auto ∧ v.context.source = .hold) ↔
      ((s.side x).state = .auto ∧ (s.side x).context.source = .hold))
    (hauto : v.state = .auto ↔ (s.side x).state = .auto) (hfrozen : v.state = .frozen ↔ (s.side x).state = .frozen) :
    NoticesFollow D (s.setSide x v) :=
  h.keep (by simp) fun n _ => State.condition_side (x := x) (by simp) (by simp) (by simp) (by simp) (by simp) n
    (fun _ => by simpa using hgap) (fun _ => by simpa using hauto) (fun _ => by simpa using hfrozen)

theorem NoticesFollow.setSide_same (h : NoticesFollow D s) {x : Side} {v : SideLoop} (hstate : v.state = (s.side x).state)
    (hsource : v.context.source = (s.side x).context.source) : NoticesFollow D (s.setSide x v) :=
  h.setSide (by rw [hstate, hsource]) (by rw [hstate]) (by rw [hstate])

theorem NoticesFollow.setContext_same (h : NoticesFollow D s) {x : Side} {c : PlanContext}
    (hsource : c.source = (s.side x).context.source) : NoticesFollow D (s.setContext x c) :=
  h.setSide_same rfl hsource

/-- A side is rewritten and stays out of AUTO and FROZEN. -/
theorem NoticesFollow.setSide_idle (h : NoticesFollow D s) {x : Side} {v : SideLoop} (hv : v.state ≠ .auto ∧ v.state ≠ .frozen)
    (hs : (s.side x).state ≠ .auto ∧ (s.side x).state ≠ .frozen) : NoticesFollow D (s.setSide x v) :=
  h.setSide (by simp [hv.1, hs.1]) (by simp [hv.1, hs.1]) (by simp [hv.2, hs.2])

/-- A side is rewritten in any way: the three causes that read it are left behind. -/
theorem NoticesFollow.setSide_any (h : NoticesFollow D s) (x : Side) (v : SideLoop) :
    NoticesFollow (.planGap :: .stationInvalid :: .sideFrozen :: D) (s.setSide x v) :=
  h.change (by simp) fun n hn => by
    simp only [List.mem_cons, not_or] at hn
    obtain ⟨h1, h2, h3, hD⟩ := hn
    exact ⟨hD, State.condition_side (x := x) (by simp) (by simp) (by simp) (by simp) (by simp) n
      (fun e => absurd e h1) (fun e => absurd e h2) (fun e => absurd e h3)⟩

/-! ### Governance (R16, R17, R18) -/

theorem State.handClass_side (material : Nat) (s : State) (x : Side) :
    ((s.handClass material).side x).state = (s.side x).state ∧
      ((s.handClass material).side x).context = (s.side x).context := by
  unfold State.handClass
  split
  · exact ⟨rfl, rfl⟩
  · cases x <;> exact ⟨rfl, rfl⟩

theorem NoticesFollow.handClass (h : NoticesFollow D s) (material : Nat) : NoticesFollow D (s.handClass material) := by
  refine h.keep (by simp) fun n _ => ?_
  have hrole : ∀ r, (s.handClass material).roleChannel r = s.roleChannel r := fun r => by
    simp [State.roleChannel, State.channel]
  cases n <;> simp [State.condition, State.handClass_side, hrole]

/-- A capture moves no condition but PLAN_GAP. -/
theorem NoticesFollow.captureSide (h : NoticesFollow (.planGap :: D) s) (z : Zone) (x : Side) :
    NoticesFollow (.planGap :: D) (s.captureSide z x) := by
  have hstate : ((s.captureSide z x).side x).state = (s.side x).state := by
    rw [State.captureSide_side]
    split <;> rfl
  exact h.keep (by simp) fun n hn => State.condition_side (x := x) (State.captureSide_other z x s) (by simp) (by simp)
    (by simp) (by simp) n (fun e => absurd (e ▸ List.mem_cons_self) hn) (fun _ => by rw [hstate]) (fun _ => by rw [hstate])

theorem NoticesFollow.releaseSide (h : NoticesFollow (.planGap :: D) s) (x : Side) :
    NoticesFollow (.planGap :: D) (s.releaseSide x) := by
  have hstate : ((s.releaseSide x).side x).state = (s.side x).state := by
    rw [State.releaseSide_side]
    split <;> rfl
  exact h.keep (by simp) fun n hn => State.condition_side (x := x) (State.releaseSide_other x s) (by simp) (by simp)
    (by simp) (by simp) n (fun e => absurd (e ▸ List.mem_cons_self) hn) (fun _ => by rw [hstate]) (fun _ => by rw [hstate])

/-- A change of the tables and the governing-zone number moves no condition. -/
theorem NoticesFollow.setPlan (h : NoticesFollow D s) (p : PlanStore) : NoticesFollow D { s with plan := p } :=
  h.keep rfl fun n _ => State.condition_congr rfl rfl rfl rfl rfl rfl n

theorem NoticesFollow.takeGovernance (h : NoticesFollow D s) (z : Zone) : NoticesFollow D (s.takeGovernance z) := by
  have hgoverned : NoticesFollow D { s with plan.governing := some z.number } := h.setPlan _
  exact (((((hgoverned.raise .zoneEntered).handClass z.fields.material).weaken
    (List.subset_cons_self _ _)).captureSide z .left).captureSide z .right).tellPlanGap

theorem NoticesFollow.loseGovernance (h : NoticesFollow D s) : NoticesFollow D s.loseGovernance := by
  have hungoverned : NoticesFollow D { s with plan.governing := none } := h.setPlan _
  exact (((hungoverned.weaken (List.subset_cons_self _ _)).releaseSide .left).releaseSide .right).tellPlanGap

theorem NoticesFollow.reevaluate (h : NoticesFollow D s) (amended : Option Nat) :
    NoticesFollow D (s.reevaluate amended) := by
  obtain ⟨heq, -⟩ | ⟨z, -, heq⟩ | ⟨-, -, heq⟩ := State.reevaluate_cases amended s <;> rw [heq]
  · exact h
  · exact h.takeGovernance z
  · exact h.loseGovernance

/-- A change of the station that is handed on (R41, R47). -/
theorem NoticesFollow.stationChanged {c : StationCounter} (h : NoticesFollow D s) :
    NoticesFollow D (({ s with station := c } : State).stationChanged s.station) := by
  obtain ⟨-, hvalid, heq⟩ | ⟨-, heq⟩ := State.stationChanged_cases s.station { s with station := c }
  · rw [heq]
    exact h.keep rfl fun n _ => State.condition_congr (s := s) (t := { s with station := c }) rfl rfl hvalid.symm rfl rfl rfl n
  · rw [heq]
    refine NoticesFollow.tellStationInvalid (NoticesFollow.reevaluate ?_ none)
    refine h.change rfl fun n hn => ?_
    simp only [List.mem_cons, not_or] at hn
    refine ⟨hn.2, ?_⟩
    cases n <;> first | exact absurd rfl hn.1 | exact Iff.rfl

/-! ### Leaving AUTO, freezing, failing to reference (R101, R105, R106, R112) -/

/-- A side leaves AUTO: SIDE_FROZEN is left behind where it goes to FROZEN. -/
theorem NoticesFollow.leaveAuto_any (h : NoticesFollow D s) (x : Side) (dest : SideState) :
    NoticesFollow (.sideFrozen :: D) (s.leaveAuto x dest) := by
  refine NoticesFollow.tellStationInvalid (NoticesFollow.tellPlanGap ?_)
  exact (h.setSide_any x _).setPlan _

theorem NoticesFollow.freeze (h : NoticesFollow D s) (x : Side) : NoticesFollow D (s.freeze x) :=
  (h.leaveAuto_any x .frozen).tellSideFrozen

/-- A side leaves AUTO for IDLE or MANUAL: no side enters or leaves FROZEN. -/
theorem NoticesFollow.leaveAuto (h : NoticesFollow D s) {x : Side} {dest : SideState} (hauto : (s.side x).state = .auto)
    (hdest : dest ≠ .frozen) : NoticesFollow D (s.leaveAuto x dest) := by
  refine NoticesFollow.tellStationInvalid (NoticesFollow.tellPlanGap (NoticesFollow.setPlan ?_ _))
  refine h.change (by simp) fun n hn => ?_
  simp only [List.mem_cons, not_or] at hn
  obtain ⟨hgap, hinvalid, hD⟩ := hn
  exact ⟨hD, State.condition_side (x := x) (by simp) (by simp) (by simp) (by simp) (by simp) n
    (fun e => absurd e hgap) (fun e => absurd e hinvalid) (fun _ => by simp [hauto, hdest])⟩

theorem NoticesFollow.failReferencing (h : NoticesFollow D s) {x : Side} (href : (s.side x).state = .referencing) :
    NoticesFollow D (s.failReferencing x) :=
  (h.setSide_idle (by simp) (by simp [href])).raise _

theorem NoticesFollow.gradeLost (h : NoticesFollow D s) (x : Side) : NoticesFollow D (s.gradeLost x) := by
  obtain ⟨-, heq⟩ | ⟨href, heq⟩ | ⟨-, -, heq⟩ := State.gradeLost_cases x s <;> rw [heq]
  · exact h.freeze x
  · exact h.failReferencing href
  · exact h

theorem NoticesFollow.slopeLost (h : NoticesFollow D s) (x : Side) : NoticesFollow D (s.slopeLost x) := by
  obtain ⟨-, -, heq⟩ | ⟨-, heq⟩ := State.slopeLost_cases x s <;> rw [heq]
  · exact h.freeze x
  · exact h

theorem NoticesFollow.loadLost (h : NoticesFollow D s) (x : Side) : NoticesFollow D (s.loadLost x) := by
  obtain ⟨href, heq⟩ | ⟨-, heq⟩ := State.loadLost_cases x s <;> rw [heq]
  · exact h.failReferencing href
  · exact h

end

end Sys2Proof.Machine
end

section
/-! The laws of the notices over the operations of the channels, the sides, the conveyor and the links, and over
every effect (R177 to R180). -/
namespace Sys2Proof.Machine

/-! ### The role a channel holds (R84) -/

theorem Role.mem_allRoles (r : Role) : r ∈ allRoles := by cases r <;> decide

theorem State.roleHeld_eq_none {s : State} {n : Fin 8} : s.roleHeld n = none ↔ ∀ r, s.monitor.roles.get r ≠ some n := by
  simp only [State.roleHeld, List.find?_eq_none, decide_eq_true_eq]
  exact ⟨fun h r => h r r.mem_allRoles, fun h r _ => h r⟩

theorem State.roleHeld_some {s : State} {n : Fin 8} {r : Role} (h : s.roleHeld n = some r) :
    s.monitor.roles.get r = some n := by
  simpa using List.find?_some h

/-- The record a role reads after a channel is written. -/
theorem State.setChannel_roleChannel (s : State) (n : Fin 8) (c : Channel) (r : Role) :
    (s.setChannel n c).roleChannel r = if s.monitor.roles.get r = some n then some c else s.roleChannel r := by
  simp only [State.roleChannel, State.setChannel_roles]
  cases hr : s.monitor.roles.get r with
  | none => rfl
  | some k =>
    by_cases hk : k = n
    · subst hk
      simp
    · simp [hk, State.setChannel_channel_ne s hk]

/-! ### Hand-overs (R77) -/

/-- What the Side Loops do with a change of the channel that holds a role (R105). -/
def State.sidesAfter (r : Role) (left disengaged : Bool) (s : State) : State :=
  match r with
  | .leftGrade => if left then s.gradeLost .left else s
  | .rightGrade => if left then s.gradeLost .right else s
  | .crossSlope => if left then (s.slopeLost .left).slopeLost .right else s
  | .drumLoad => if left || disengaged then (s.loadLost .left).loadLost .right else s
  | .beltPressure => s

/-- A hand-over changes nothing where neither the health nor the drum engaged flag changed, or where the channel
holds no role; else it moves the sides as the role gives and re-evaluates SENSOR_LOST. -/
theorem State.handOver_eq (n : Fin 8) (before : Channel) (s : State) : s.handOver n before =
    if before.health = (s.channel n).health ∧ before.engaged = (s.channel n).engaged then s
    else match s.roleHeld n with
      | some r => (s.sidesAfter r (before.health = .live && (s.channel n).health ≠ .live)
          (before.engaged && !(s.channel n).engaged)).tellSensorLost
      | none => s := by
  unfold State.handOver
  dsimp only
  by_cases hsame : before.health = (s.channel n).health ∧ before.engaged = (s.channel n).engaged
  · rw [if_pos hsame, if_pos (by simpa using hsame)]
  · rw [if_neg hsame, if_neg (by simpa using hsame)]
    cases s.roleHeld n with
    | none => rfl
    | some r => cases r <;> rfl

section
variable {s : State} {D : List Notice}

theorem NoticesFollow.sidesAfter (h : NoticesFollow D s) (r : Role) (a b : Bool) : NoticesFollow D (s.sidesAfter r a b) := by
  unfold State.sidesAfter
  cases r with
  | leftGrade =>
    dsimp only
    split
    · exact h.gradeLost _
    · exact h
  | rightGrade =>
    dsimp only
    split
    · exact h.gradeLost _
    · exact h
  | crossSlope =>
    dsimp only
    split
    · exact (h.slopeLost _).slopeLost _
    · exact h
  | drumLoad =>
    dsimp only
    split
    · exact (h.loadLost _).loadLost _
    · exact h
  | beltPressure => exact h

/-- A channel's record moves no condition but SENSOR_LOST. -/
theorem NoticesFollow.setMonitor (h : NoticesFollow D s) (m : ChannelMonitor) :
    NoticesFollow (.sensorLost :: D) { s with monitor := m } :=
  h.change rfl fun n hn => by
    simp only [List.mem_cons, not_or] at hn
    refine ⟨hn.2, ?_⟩
    cases n <;> first | exact absurd rfl hn.1 | exact Iff.rfl

/-- A channel's record is written with the health it had. -/
theorem NoticesFollow.setChannel_same (h : NoticesFollow D s) {n : Fin 8} {c : Channel}
    (hhealth : c.health = (s.channel n).health) : NoticesFollow D (s.setChannel n c) := by
  refine h.keep rfl fun k _ => ?_
  cases k <;> first | exact Iff.rfl | skip
  refine exists_congr fun r => ?_
  rw [State.setChannel_roleChannel]
  split
  · rename_i hr
    simp [State.roleChannel, hr, hhealth]
  · exact Iff.rfl

/-- A channel that holds no role may be written in any way. -/
theorem NoticesFollow.setChannel_free (h : NoticesFollow D s) {n : Fin 8} (c : Channel) (hfree : s.roleHeld n = none) :
    NoticesFollow D (s.setChannel n c) := by
  refine h.keep rfl fun k _ => ?_
  cases k <;> first | exact Iff.rfl | skip
  refine exists_congr fun r => ?_
  rw [State.setChannel_roleChannel, if_neg (State.roleHeld_eq_none.mp hfree r)]

/-- A channel's record is written and the change handed on: SENSOR_LOST follows (R77, R93). -/
theorem NoticesFollow.setChannel_handOver (h : NoticesFollow D s) (n : Fin 8) (c : Channel) :
    NoticesFollow D ((s.setChannel n c).handOver n (s.channel n)) := by
  rw [State.handOver_eq, State.setChannel_channel_same]
  split
  · rename_i hsame
    exact h.setChannel_same hsame.1.symm
  · cases hheld : (s.setChannel n c).roleHeld n with
    | none => exact h.setChannel_free c hheld
    | some r =>
      have hwritten : NoticesFollow (.sensorLost :: D) (s.setChannel n c) := h.setMonitor _
      exact (hwritten.sidesAfter r _ _).tellSensorLost

theorem NoticesFollow.takeReading (h : NoticesFollow D s) (r : Reading) : NoticesFollow D (s.takeReading r) := by
  unfold State.takeReading
  split
  · exact h
  · split
    · exact h
    · exact h.setChannel_handOver _ _

theorem NoticesFollow.expireFreshness (h : NoticesFollow D s) (n : Fin 8) : NoticesFollow D (s.expireFreshness n) := by
  unfold State.expireFreshness
  dsimp only
  split
  · exact h.setChannel_handOver _ _
  · exact h

theorem NoticesFollow.clearChannel (h : NoticesFollow D s) (n : Fin 8) (c : Channel) :
    NoticesFollow D ((s.dropRole n).setChannel n c).tellSensorLost := by
  have hdropped : ∃ m, (s.dropRole n).setChannel n c = { s with monitor := m } := by
    unfold State.dropRole
    split <;> exact ⟨_, rfl⟩
  obtain ⟨m, hm⟩ := hdropped
  rw [hm]
  exact (h.setMonitor m).tellSensorLost

/-- The settle sequence of a side moves no condition. -/
theorem NoticesFollow.restartSettle (h : NoticesFollow D s) (x : Side) : NoticesFollow D (s.restartSettle x) :=
  h.setSide_same rfl rfl

theorem NoticesFollow.transfer (h : NoticesFollow D s) (r : Role) (n : Fin 8) : NoticesFollow D (s.transfer r n) := by
  have grade : ∀ x, NoticesFollow D (s.transferGrade x n) := fun x =>
    (NoticesFollow.restartSettle (s := (s.rebase x n).setRole (gradeRole x) (some n)) (h.setMonitor _) x).tellSensorLost
  cases r with
  | leftGrade => exact grade .left
  | rightGrade => exact grade .right
  | crossSlope =>
    have hmoved : NoticesFollow (.sensorLost :: D) (s.setRole .crossSlope (some n)) := h.setMonitor _
    refine NoticesFollow.tellSensorLost ?_
    split <;> split
    · exact (hmoved.restartSettle _).restartSettle _
    · exact hmoved.restartSettle _
    · exact hmoved.restartSettle _
    · exact hmoved
  | drumLoad | beltPressure => exact h

/-! ### The sides (R97 to R112) -/

theorem NoticesFollow.enterAuto (h : NoticesFollow D s) (x : Side) : NoticesFollow D (s.enterAuto x) :=
  (((h.setSide_any x _).restartSettle x).tellPlanGap.tellStationInvalid).tellSideFrozen

/-- A side goes from FROZEN to IDLE or MANUAL (R102, R103). -/
theorem NoticesFollow.unfreeze (h : NoticesFollow D s) {x : Side} {v : SideLoop} (hstate : (s.side x).state = .frozen)
    (hv : v.state ≠ .auto) : NoticesFollow D (s.setSide x v).tellSideFrozen := by
  refine NoticesFollow.tellSideFrozen (h.change (by simp) fun n hn => ?_)
  simp only [List.mem_cons, not_or] at hn
  exact ⟨hn.2, State.condition_side (x := x) (by simp) (by simp) (by simp) (by simp) (by simp) n
    (fun _ => by simp [hstate, hv]) (fun _ => by simp [hstate, hv]) (fun e => absurd e hn.1)⟩

theorem NoticesFollow.disengageSide (h : NoticesFollow D s) (x : Side) : NoticesFollow D (s.disengageSide x) := by
  unfold State.disengageSide
  dsimp only
  cases hstate : (s.side x).state with
  | idle => exact h
  | manual | referencing => exact h.setSide_idle (by simp [SideLoop.standDown]) (by simp [hstate])
  | auto => exact h.leaveAuto hstate (by decide)
  | frozen => exact h.unfreeze hstate (by simp [SideLoop.standDown])

theorem NoticesFollow.toManual (h : NoticesFollow D s) (x : Side) : NoticesFollow D (s.toManual x) := by
  unfold State.toManual
  dsimp only
  cases hstate : (s.side x).state with
  | idle | referencing => exact h.setSide_idle (by simp [SideLoop.standDown]) (by simp [hstate])
  | manual => exact h
  | auto => exact h.leaveAuto hstate (by decide)
  | frozen => exact h.unfreeze hstate (by simp [SideLoop.standDown])

theorem NoticesFollow.startLease (h : NoticesFollow D s) (x : Side) (d : Direction) :
    NoticesFollow D (s.startLease x d) := h.setSide_same rfl rfl

theorem NoticesFollow.startReferencing (h : NoticesFollow D s) {x : Side}
    (hstate : (s.side x).state = .idle ∨ (s.side x).state = .manual) : NoticesFollow D (s.startReferencing x) :=
  h.setSide_idle (by simp) (by obtain hs | hs := hstate <;> simp [hs])

theorem NoticesFollow.drive (h : NoticesFollow D s) (x : Side) (u : Int) : NoticesFollow D (s.drive x u) :=
  h.setSide_same rfl rfl

/-- A target computation records its results, of which no condition reads one. -/
theorem NoticesFollow.computeTarget (h : NoticesFollow D s) (x : Side) : NoticesFollow D (s.computeTarget x) := by
  refine NoticesFollow.raiseTimes _ _ ?_
  have hcontext : NoticesFollow D (s.setContext x (s.contextAfter x)) := h.setContext_same rfl
  exact hcontext.setPlan _

theorem NoticesFollow.autoInterval (h : NoticesFollow D s) (x : Side) : NoticesFollow D (s.autoInterval x) := by
  unfold State.autoInterval
  dsimp only
  have hcounted : ∀ u, NoticesFollow D (((s.computeTarget x).drive x u).countSettle x) := fun u =>
    ((h.computeTarget x).drive x u).setSide_same rfl rfl
  split
  · exact (hcounted _).restartSettle x
  · exact hcounted _

theorem NoticesFollow.zeroAtTouch (h : NoticesFollow D s) (x : Side) : NoticesFollow D (s.zeroAtTouch x) := by
  unfold State.zeroAtTouch
  split
  · exact h.setChannel_same rfl
  · exact h

theorem State.zeroAtTouch_side (x : Side) (s : State) (y : Side) : (s.zeroAtTouch x).side y = s.side y := by
  unfold State.zeroAtTouch
  split <;> rfl

theorem NoticesFollow.touch (h : NoticesFollow D s) {x : Side} (href : (s.side x).state = .referencing) :
    NoticesFollow D (s.touch x) :=
  ((h.zeroAtTouch x).setSide_idle (by simp) (by simp [State.zeroAtTouch_side, href])).raise _

theorem NoticesFollow.sideInterval (h : NoticesFollow D s) (x : Side) : NoticesFollow D (s.sideInterval x) := by
  unfold State.sideInterval
  cases hstate : (s.side x).state with
  | idle | frozen => exact h
  | manual =>
    dsimp only
    split
    · exact h.drive x _
    · exact h
  | referencing =>
    dsimp only [State.referencingInterval]
    split
    · exact h.touch hstate
    · exact h.failReferencing hstate
    · exact h.drive x _
  | auto => exact h.autoInterval x

theorem NoticesFollow.nextSidePeriod (h : NoticesFollow D s) (x : Side) : NoticesFollow D (s.nextSidePeriod x) :=
  h.keep (by simp) fun n _ =>
    State.condition_congr (by simp) (by simp) (by simp) (by simp) (by simp) (by simp) n

theorem NoticesFollow.expireLease (h : NoticesFollow D s) (x : Side) : NoticesFollow D (s.expireLease x) := by
  unfold State.expireLease
  dsimp only
  split
  · exact h.setSide_same rfl rfl
  · exact h

theorem NoticesFollow.limitDemands (h : NoticesFollow D s) : NoticesFollow D s.limitDemands := by
  have hleft : NoticesFollow D (s.setSide .left (s.left.limitTo s.activeBank)) := h.setSide_same rfl rfl
  exact NoticesFollow.setSide_same (x := .right) (v := s.right.limitTo s.activeBank) hleft rfl rfl

theorem NoticesFollow.storeBank (h : NoticesFollow D s) (n : BankName) (b : Bank) :
    NoticesFollow D (s.storeBank n b) := by
  have hset : NoticesFollow D (s.setBank n b) := h.keep (by simp) fun k _ =>
    State.condition_congr (by simp) (by simp) (by simp) (by simp) (by simp) (by simp) k
  unfold State.storeBank
  split
  · exact hset.limitDemands
  · exact hset

/-! ### The conveyor (R156 to R173) -/

/-- What a change of the conveyor moves of the conditions: FILL_HIGH, TRUCK_FULL and BELT_BLOCKED. -/
theorem State.condition_conveyor {c : Conveyor} (n : Notice)
    (hlatch : n = .fillHigh → c.fillLatch = s.conveyor.fillLatch)
    (hfull : n = .truckFull → c.truckTarget = s.conveyor.truckTarget ∧ c.truckCounter = s.conveyor.truckCounter)
    (hblocked : n = .beltBlocked → (c.state = .blocked ↔ s.conveyor.state = .blocked)) :
    State.condition { s with conveyor := c } n ↔ s.condition n := by
  cases n with
  | fillHigh => simp only [State.condition, hlatch rfl]
  | truckFull => simp only [State.condition, (hfull rfl).1, (hfull rfl).2]
  | beltBlocked => exact hblocked rfl
  | _ => exact Iff.rfl

/-- The conveyor changes with its latch, its truck and whether it is blocked as they were. -/
theorem NoticesFollow.setConveyor (h : NoticesFollow D s) {c : Conveyor} (hlatch : c.fillLatch = s.conveyor.fillLatch)
    (hfull : c.truckTarget = s.conveyor.truckTarget ∧ c.truckCounter = s.conveyor.truckCounter)
    (hblocked : c.state = .blocked ↔ s.conveyor.state = .blocked) : NoticesFollow D { s with conveyor := c } :=
  h.keep rfl fun n _ => State.condition_conveyor n (fun _ => hlatch) (fun _ => hfull) (fun _ => hblocked)

/-- The belt stands where it was not blocked. -/
theorem NoticesFollow.stand (h : NoticesFollow D s) {dest : ConveyorState} (hdest : dest ≠ .blocked)
    (hstate : s.conveyor.state ≠ .blocked) : NoticesFollow D (s.mapConveyor (Conveyor.stand dest)) :=
  h.setConveyor rfl ⟨rfl, rfl⟩ (by simp [Conveyor.stand, hdest, hstate])

theorem NoticesFollow.stand_tell (h : NoticesFollow D s) (dest : ConveyorState) :
    NoticesFollow D (s.mapConveyor (Conveyor.stand dest)).tellBeltBlocked := by
  refine NoticesFollow.tellBeltBlocked (h.change rfl fun n hn => ?_)
  simp only [List.mem_cons, not_or] at hn
  exact ⟨hn.2, State.condition_conveyor n (fun _ => rfl) (fun _ => ⟨rfl, rfl⟩) (fun e => absurd e hn.1)⟩

theorem NoticesFollow.startBelt (h : NoticesFollow D s) (hstate : s.conveyor.state ≠ .blocked) :
    NoticesFollow D s.startBelt :=
  h.setConveyor rfl ⟨rfl, rfl⟩ (by simp [Conveyor.enterRunning, hstate])

theorem NoticesFollow.enterRunOn (h : NoticesFollow D s) (time : Nat) (hstate : s.conveyor.state ≠ .blocked) :
    NoticesFollow D (s.mapConveyor (Conveyor.enterRunOn time)) :=
  h.setConveyor rfl ⟨rfl, rfl⟩ (by simp [Conveyor.enterRunOn, hstate])

/-- The stages of the cut move the belt among STOPPED, RUNNING and RUN_ON. -/
theorem NoticesFollow.conveyorCut (h : NoticesFollow D s) : NoticesFollow D s.conveyorCut := by
  unfold State.conveyorCut State.mapConveyor
  dsimp only
  split
  · rename_i hstate _ _
    split
    · exact h.setConveyor rfl ⟨rfl, rfl⟩ (by simp [Conveyor.enterRunning, hstate])
    · exact h.setConveyor rfl ⟨rfl, rfl⟩ Iff.rfl
  · rename_i hstate _ _
    exact h.setConveyor rfl ⟨rfl, rfl⟩ (by simp [Conveyor.enterRunning, hstate])
  · rename_i hstate _ _
    exact h.setConveyor rfl ⟨rfl, rfl⟩ (by simp [Conveyor.enterRunOn, hstate])
  · exact h.setConveyor rfl ⟨rfl, rfl⟩ Iff.rfl

theorem NoticesFollow.conveyorBlock (h : NoticesFollow D s) : NoticesFollow D s.conveyorBlock := by
  unfold State.conveyorBlock
  dsimp only
  split
  · split
    · exact h.stand_tell .blocked
    · exact h.setConveyor rfl ⟨rfl, rfl⟩ Iff.rfl
  · exact h

theorem NoticesFollow.conveyorRunOn (h : NoticesFollow D s) (was : ConveyorState) :
    NoticesFollow D (s.conveyorRunOn was) := by
  unfold State.conveyorRunOn
  split
  · rename_i hrun
    simp only [Bool.and_eq_true, decide_eq_true_eq] at hrun
    split
    · exact h.stand (by decide) (by simp [hrun.2])
    · exact h.setConveyor rfl ⟨rfl, rfl⟩ Iff.rfl
  · exact h

theorem NoticesFollow.conveyorSpeed (h : NoticesFollow D s) : NoticesFollow D s.conveyorSpeed :=
  h.setConveyor rfl ⟨rfl, rfl⟩ Iff.rfl

/-- The account moves the truck counter, and TRUCK_FULL is told; the latch and the state stand. -/
theorem NoticesFollow.conveyorFill (h : NoticesFollow D s) : NoticesFollow D s.conveyorFill := by
  have haccount : ∀ q cap housing, NoticesFollow (.truckFull :: D) (s.mapConveyor (Conveyor.account q cap housing)) := by
    intro q cap housing
    have hstands : (s.conveyor.account q cap housing).fillLatch = s.conveyor.fillLatch ∧
        (s.conveyor.account q cap housing).state = s.conveyor.state := by
      unfold Conveyor.account
      dsimp only
      split <;> exact ⟨rfl, rfl⟩
    refine h.change rfl fun n hn => ?_
    simp only [List.mem_cons, not_or] at hn
    exact ⟨hn.2, State.condition_conveyor n (fun _ => hstands.1) (fun e => absurd e hn.1) (fun _ => by rw [hstands.2])⟩
  unfold State.conveyorFill
  dsimp only
  refine NoticesFollow.tellTruckFull ?_
  split
  · exact (haccount _ _ _).raise _
  · exact haccount _ _ _

theorem NoticesFollow.reviewLatch (h : NoticesFollow D s) : NoticesFollow D s.reviewLatch := by
  refine NoticesFollow.tellFillHigh (h.change rfl fun n hn => ?_)
  simp only [List.mem_cons, not_or] at hn
  exact ⟨hn.2, State.condition_conveyor n (fun e => absurd e hn.1) (fun _ => ⟨rfl, rfl⟩) (fun _ => Iff.rfl)⟩

theorem Conveyor.turning_iff {c : Conveyor} : c.turning = true ↔ c.state = .running ∨ c.state = .runOn := by
  simp [Conveyor.turning]

theorem NoticesFollow.truckDecision (h : NoticesFollow D s) : NoticesFollow D s.truckDecision := by
  unfold State.truckDecision
  split
  · rename_i hfull
    simp only [Bool.and_eq_true, Conveyor.turning_iff] at hfull
    exact h.stand (by decide) (by obtain hs | hs := hfull.2 <;> simp [hs])
  · exact h

theorem NoticesFollow.conveyorInterval (h : NoticesFollow D s) : NoticesFollow D s.conveyorInterval :=
  ((((h.conveyorCut.conveyorBlock).conveyorRunOn _).conveyorSpeed.conveyorFill).reviewLatch).truckDecision

theorem NoticesFollow.takeBeltMode (h : NoticesFollow D s) (m : BeltMode) (v : Nat) :
    NoticesFollow D (s.takeBeltMode m v) := by
  unfold State.takeBeltMode State.mapConveyor
  dsimp only
  split <;> exact h.setConveyor rfl ⟨rfl, rfl⟩ Iff.rfl

/-- The truck's target or counter is written and TRUCK_FULL told. -/
theorem NoticesFollow.setTruck (h : NoticesFollow D s) {c : Conveyor} (hlatch : c.fillLatch = s.conveyor.fillLatch)
    (hstate : c.state = s.conveyor.state) : NoticesFollow D ({ s with conveyor := c } : State).tellTruckFull := by
  refine NoticesFollow.tellTruckFull (h.change rfl fun n hn => ?_)
  simp only [List.mem_cons, not_or] at hn
  exact ⟨hn.2, State.condition_conveyor n (fun _ => hlatch) (fun e => absurd e hn.1) (fun _ => by rw [hstate])⟩

theorem NoticesFollow.truckReady (h : NoticesFollow D s) (p : List Byte) : NoticesFollow D (truckReady p s).1 := by
  have hemptied : NoticesFollow D ({ s with conveyor.truckCounter := 0 } : State).tellTruckFull := h.setTruck rfl rfl
  unfold Machine.truckReady
  dsimp only
  split
  · rename_i hheld
    exact hemptied.startBelt (by simp [hheld])
  · exact hemptied

theorem NoticesFollow.storeGeometry (h : NoticesFollow D s) (g : Geometry) : NoticesFollow D (s.storeGeometry g) := by
  have hstored : NoticesFollow D { s with
      station.geometry := g
      conveyor.fixedSpeed := bringWithinNat g.beltMin g.beltMax s.conveyor.fixedSpeed } :=
    h.keep rfl fun n _ => by cases n <;> exact Iff.rfl
  refine NoticesFollow.reviewLatch ?_
  unfold State.spillExcess
  dsimp only
  split
  · refine NoticesFollow.raise ?_ _
    exact hstored.setConveyor rfl ⟨rfl, rfl⟩ Iff.rfl
  · exact hstored

/-! ### The governor, the plan and the links -/

theorem NoticesFollow.setGovernor (h : NoticesFollow D s) (g : Governor) : NoticesFollow D { s with governor := g } :=
  h.keep rfl fun n _ => State.condition_congr rfl rfl rfl rfl rfl rfl n

theorem NoticesFollow.loadWindow (h : NoticesFollow D s) : NoticesFollow D s.loadWindow := by
  unfold State.loadWindow
  split
  · exact h
  · dsimp only
    split
    · exact (h.setGovernor _).raise _
    · exact h.setGovernor _

theorem NoticesFollow.storeZone (h : NoticesFollow D s) (z : Zone) (zs : List Zone) : NoticesFollow D (s.storeZone z zs) := by
  unfold State.storeZone
  dsimp only
  split
  · exact (h.setPlan _).raise _
  · exact h.setPlan _

theorem NoticesFollow.setTimers (h : NoticesFollow D s) (v : IntervalTimers) : NoticesFollow D { s with timers := v } :=
  h.keep rfl fun n _ => State.condition_congr rfl rfl rfl rfl rfl rfl n

/-- The station changes, its validity apart: no condition reads it. -/
theorem NoticesFollow.setStation (h : NoticesFollow D s) {c : StationCounter} (hvalid : c.valid = s.station.valid) :
    NoticesFollow D { s with station := c } :=
  h.keep rfl fun n _ => State.condition_congr (s := s) (t := { s with station := c }) rfl rfl hvalid rfl rfl rfl n

/-- The plan link changes, the link loss apart. -/
theorem NoticesFollow.setLink (h : NoticesFollow D s) {v : PlanLink} (hloss : v.linkLoss = s.link.linkLoss) :
    NoticesFollow D { s with link := v } :=
  h.keep rfl fun n _ => State.condition_congr (s := s) (t := { s with link := v }) rfl rfl rfl rfl rfl hloss n

theorem NoticesFollow.setSensorLink (h : NoticesFollow D s) (v : SensorLink) :
    NoticesFollow D { s with sensorLink := v } :=
  h.keep rfl fun n _ => State.condition_congr rfl rfl rfl rfl rfl rfl n

/-- The link loss begins or ends and LINK_LOST is told (R193). -/
theorem NoticesFollow.setLoss (h : NoticesFollow D s) (v : PlanLink) :
    NoticesFollow D ({ s with link := v } : State).tellLinkLost := by
  refine NoticesFollow.tellLinkLost (h.change rfl fun n hn => ?_)
  simp only [List.mem_cons, not_or] at hn
  refine ⟨hn.2, ?_⟩
  cases n <;> first | exact absurd rfl hn.1 | exact Iff.rfl

theorem NoticesFollow.heard (h : NoticesFollow D s) (q : Requester) : NoticesFollow D (s.heard q) := by
  obtain ⟨-, hq⟩ | ⟨-, hq⟩ := State.heard_cases q s <;> rw [hq]
  · exact h.setLoss _
  · exact h

theorem NoticesFollow.arrive (h : NoticesFollow D s) (f : Frame) : NoticesFollow D (s.arrive f) := by
  obtain ⟨-, hf⟩ | ⟨-, hf⟩ := State.enqueue_cases f (s.heard f.requester) <;> rw [State.arrive, hf]
  · exact (h.heard _).setLink rfl
  · exact (h.heard _).raise _

theorem NoticesFollow.takeFrame {u : State} {f : Frame} (h : NoticesFollow D s) (htake : s.takeFrame f = some u) :
    NoticesFollow D u := by
  obtain ⟨-, ⟨-, rfl⟩ | ⟨rest, -, rfl⟩⟩ := State.takeFrame_some htake
  · exact h.heard _
  · exact h.setLink rfl

theorem NoticesFollow.respond (h : NoticesFollow D s) (q : Requester) (code tag : Byte) (a : Reply) :
    NoticesFollow D (s.respond q code tag a) := h.setLink rfl

theorem NoticesFollow.responseGone (h : NoticesFollow D s) : NoticesFollow D s.responseGone := by
  rw [State.responseGone_eq]
  exact h.setLink rfl

theorem NoticesFollow.sendResponse (h : NoticesFollow D s) : NoticesFollow D s.sendResponse := by
  obtain ⟨-, hsend⟩ | ⟨-, hsend⟩ := s.sendResponse_cases <;> rw [hsend]
  · exact h
  · exact h.responseGone

theorem NoticesFollow.expireSupervision (h : NoticesFollow D s) : NoticesFollow D s.expireSupervision := by
  unfold State.expireSupervision
  split
  · exact h
  · split
    · exact h.setLoss _
    · exact h.setLink rfl

/-! ### Acknowledging and masking (R182, R183) -/

/-- The notices are rewritten with their causes as they were, a present cause keeping its latch. -/
theorem NoticesFollow.rewriteNotices (h : NoticesFollow D s) {f : Nat → NoticeRecord → NoticeRecord}
    (hcause : ∀ (n : Notice) v, (f n.number.val v).cause = v.cause)
    (hlatch : ∀ n : Notice, (s.notice n).cause = true → (f n.number.val (s.notice n)).latch = true) :
    NoticesFollow D (s.rewriteNotices f) := by
  refine ⟨State.updateAlert_alertFollows _, fun n hn => ?_, fun n hD => ?_⟩
  · rw [State.rewriteNotices_notice] at hn ⊢
    exact hlatch n ((hcause n _).symm.trans hn)
  · rw [State.rewriteNotices_notice, hcause]
    refine (h.causes n hD).trans (Iff.symm ?_)
    exact State.condition_congr rfl rfl rfl rfl rfl rfl n

/-- Only condition notices have a condition. -/
theorem State.isCondition_of_condition {n : Notice} (h : s.condition n) : isCondition n.number.val = true := by
  cases n with
  | planGap | stationInvalid | sensorLost | sideFrozen | fillHigh | truckFull | beltBlocked | linkLost => rfl
  | _ => exact absurd h id

theorem NoticesFollow.acknowledge (h : NoticesFollow [] s) (named : Nat → Bool) :
    NoticesFollow [] (s.rewriteNotices (acknowledged named)) := by
  refine h.rewriteNotices (fun n v => by rw [acknowledged_eq]) fun n hn => ?_
  have hcond := State.isCondition_of_condition ((h.causes n List.not_mem_nil).mp hn)
  rw [acknowledged_eq]
  simp [hn, hcond, h.latched n hn]

/-! ### Every effect -/

/-- Every effect leaves the alert line, the latches and the causes as the state has them. -/
theorem Effect.keepsNotices {t : State} {i : Instr} (h : Effect s i t) (hs : NoticesFollow [] s) : NoticesFollow [] t := by
  cases h with
  | same => exact hs
  | zoneStored | zoneAmended => exact (hs.storeZone _ _).reevaluate _
  | zoneSuspended | zoneReinstated | zoneRetired | planCleared => exact NoticesFollow.reevaluate (hs.setPlan _) _
  | markStored | markAmended | markRetired => exact hs.setPlan _
  | geometryStored => exact hs.storeGeometry _
  | stationFixed | counted => exact hs.stationChanged
  | senseSet | doubleStepped => exact hs.setStation rfl
  | speedFormed =>
    have hformed : NoticesFollow [] { s with station.speed := s.station.accum.tdiv 100, station.accum := 0 } :=
      hs.setStation rfl
    exact hformed.setTimers _
  | channelConfigured => exact ((hs.setChannel_handOver _ _).weaken (List.subset_cons_self _ _)).tellSensorLost
  | channelCleared => exact hs.clearChannel _ _
  | roleAssigned => exact (hs.setMonitor _).tellSensorLost
  | roleTransferred => exact hs.transfer _ _
  | zeroSet => exact hs.setChannel_same rfl
  | readingTaken => exact hs.takeReading _
  | freshnessExpired => exact hs.expireFreshness _
  | engaged => exact hs.enterAuto _
  | disengaged => exact hs.disengageSide _
  | jogged => exact (hs.toManual _).startLease _ _
  | referenceBegun _ hstate => exact hs.startReferencing hstate
  | modeSet | trimSet => exact hs.setSide_same rfl rfl
  | sideIntervalEnded | dwellEnded => exact (hs.sideInterval _).nextSidePeriod _
  | leaseExpired => exact hs.expireLease _
  | bankStored => exact hs.storeBank _ _
  | capSet => exact hs.setGovernor _
  | governorIntervalEnded => exact hs.keep rfl fun n _ => State.condition_congr rfl rfl rfl rfl rfl rfl n
  | loadWindowEnded => exact hs.loadWindow.setTimers _
  | beltStarted hstate => exact hs.startBelt (by obtain h | h := hstate <;> simp [h])
  | beltRunsOn hstate => exact hs.enterRunOn _ (by simp [hstate])
  | beltReleased hstate => exact hs.stand (by decide) (by simp [hstate])
  | beltModeTaken => exact hs.takeBeltMode _ _
  | beltHeld hstate => exact hs.stand (by decide) (by obtain h | h := hstate <;> simp [h])
  | truckReadied => exact hs.truckReady _
  | targetSet => exact NoticesFollow.truckDecision (hs.setTruck rfl rfl)
  | blockCleared => exact hs.stand_tell _
  | totalsCleared => exact hs.setConveyor rfl ⟨rfl, rfl⟩ Iff.rfl
  | conveyorIntervalEnded | runOnEnded => exact hs.conveyorInterval.setTimers _
  | noticesAcknowledged => exact hs.acknowledge _
  | noticesMasked => exact hs.rewriteNotices (fun _ _ => rfl) (fun n hn => hs.latched n hn)
  | restartArranged | broadcastFormed | broadcastLeft => exact hs.setLink rfl
  | arrived => exact hs.arrive _
  | malformedAnswered hu => exact (hs.takeFrame hu).respond _ _ _ _
  | responseLeft => exact hs.sendResponse
  | responseDiscarded => exact hs.responseGone
  | supervisionExpired => exact hs.expireSupervision
  | ceilingMessageLeft => exact hs.setSensorLink _

end

end Sys2Proof.Machine
end

section
/-! What a law must stand through to be kept by every step, and the laws of the notices, the links and the timers
(O60), of the governor and the material account (O59). -/
namespace Sys2Proof.Machine

/-! ### Steps -/

/-- The state after one millisecond in which no command waits, while no reset is held. -/
def State.lessMs (s : State) : State := { s with
  monitor.channels := mapTable (fun c => { c with timer := lessOne c.timer }) s.monitor.channels
  left := s.left.passMs
  right := s.right.passMs
  link.response := s.link.response.map (fun r => { r with remaining := r.remaining - 1 })
  link.broadcastTimer := s.link.broadcastTimer - 1
  link.supervision := lessOne s.link.supervision
  timers := s.timers.passMs }

theorem State.passMs_eq (s : State) : s.passMs = s.whileRunning s.lessMs := rfl

/-- What a law of the part must stand through: the queue of commands, a millisecond, a frame that is taken, each
effect, a response, and the resets. -/
structure StandsThrough (L : State → Prop) : Prop where
  pending : ∀ (s : State) (q : List Instr), L s → L { s with pending := q }
  ms : ∀ s : State, s.heldReset = none → L s → L s.lessMs
  take : ∀ (s u : State) (f : Frame), s.heldReset = none → L s → s.takeFrame f = some u → L u
  effect : ∀ (s t : State) (i : Instr), s.heldReset = none → L s → Effect s i t → L t
  respond : ∀ (s : State) (q : Requester) (code tag : Byte) (a : Reply), s.heldReset = none → L s →
    L (s.respond q code tag a)
  reset : ∀ (s t : State) (i : Instr), L s → ResetEffect s i t → L t

theorem State.heldReset_of_takeFrame {s u : State} {f : Frame} (h : s.takeFrame f = some u) :
    s.heldReset = none ∧ u.heldReset = none := by
  have hrun := (State.mayTake_iff.mp (State.takeFrame_some h).1).1
  obtain ⟨-, -, -, -, -, -, -, -, -, -, hheld, -⟩ := State.takeFrame_keepsBlocks h
  exact ⟨hrun, hheld.trans hrun⟩

theorem StandsThrough.outcome {L : State → Prop} (h : StandsThrough L) {s t : State} {i : Instr} {row : RequestRow}
    {r : Request} (hs : L s) (ht : RequestOutcome s i row r t) : L t := by
  obtain ⟨-, htake, heffect⟩ := ht
  obtain ⟨hrun, hrun'⟩ := State.heldReset_of_takeFrame htake
  have hu := h.take _ _ _ hrun hs htake
  obtain rfl | ⟨-, heffect⟩ := heffect
  · exact h.respond _ _ _ _ _ hrun' hu
  · exact h.respond _ _ _ _ _ (heffect.keepsQueue.2.trans hrun') (h.effect _ _ _ hrun' hu heffect)

theorem StandsThrough.exec {L : State → Prop} (h : StandsThrough L) {s t : State} {i : Instr} (hs : L s)
    (ht : exec i s = .next t) : L t := by
  cases hrow : requestRow i with
  | some p =>
    obtain ⟨row, r⟩ := p
    obtain rfl | houtcome := exec_request_cases hrow ht
    · exact hs
    · exact h.outcome hs houtcome
  | none =>
    obtain rfl | ⟨hrun, heffect⟩ | hreset := exec_event_cases hrow ht
    · exact hs
    · exact h.effect _ _ _ hrun hs heffect
    · exact h.reset _ _ _ hs hreset

/-- A law that stands through all of it is kept by every step. -/
theorem StandsThrough.step {L : State → Prop} (h : StandsThrough L) {s t : State} (hs : L s)
    (ht : step s = .next t) : L t := by
  unfold Machine.step at ht
  split at ht
  · obtain rfl := Host.Outcome.next.inj ht
    rw [State.passMs_eq]
    by_cases hrun : s.heldReset = none
    · rw [State.whileRunning_running hrun]
      exact h.ms s hrun hs
    · rwa [State.whileRunning_held hrun]
  · exact h.exec (h.pending s _ hs) ht

/-! ### The notices while a reset is held and at its release (R185, R198) -/

@[simp] theorem mapTable_getElem {α β : Type} {n : Nat} (f : α → β) (v : Vector α n) (k : Nat) (h : k < n) :
    (mapTable f v)[k] = f v[k] := by
  simp [mapTable]

theorem State.lessMs_channel (s : State) (n : Fin 8) :
    s.lessMs.channel n = { s.channel n with timer := lessOne (s.channel n).timer } := by
  simp [State.lessMs, State.channel]

theorem State.lessMs_side (s : State) (x : Side) : s.lessMs.side x = (s.side x).passMs := by cases x <;> rfl

theorem NoticesFollow.lessMs {s : State} {D : List Notice} (h : NoticesFollow D s) : NoticesFollow D s.lessMs := by
  refine h.keep rfl fun n _ => ?_
  have hside : ∀ x, (s.lessMs.side x).state = (s.side x).state ∧ (s.lessMs.side x).context = (s.side x).context :=
    fun x => by cases x <;> exact ⟨rfl, rfl⟩
  cases n with
  | planGap | sideFrozen => simp only [State.condition, hside]
  | stationInvalid =>
    simp only [State.condition, hside]
    exact Iff.rfl
  | sensorLost =>
    refine exists_congr fun r => ?_
    have hroles : s.lessMs.monitor.roles = s.monitor.roles := rfl
    simp only [State.roleChannel, hroles, State.lessMs_channel]
    cases s.monitor.roles.get r <;> simp
  | _ => exact Iff.rfl

theorem State.hold_causesOk {s : State} (h : CausesOk s) (kind : ResetKind) : CausesOk (s.hold kind) := by
  intro n
  refine ⟨(h n).1.trans ?_, (h n).2⟩
  exact State.condition_congr (s := s.hold kind) rfl rfl rfl rfl rfl rfl n

theorem State.hold_alertOk (s : State) (kind : ResetKind) : AlertOk (s.hold kind) := by
  simp [AlertOk, State.hold]

/-- The condition notices (the table of Chapter 9). -/
def conditionNotices : List Notice :=
  [.planGap, .stationInvalid, .sensorLost, .sideFrozen, .fillHigh, .truckFull, .beltBlocked, .linkLost]

theorem releasedNotices_notice (v : Vector NoticeRecord 19) (own : Notice) (s : State) (n : Notice) :
    (releasedNotices v own s).notice n = if n = own then ⟨true, v[n.number.val].masked, false, 1⟩
      else ⟨false, v[n.number.val].masked, false, 0⟩ := by
  unfold releasedNotices
  split
  · rename_i hn
    subst hn
    simp [State.raiseNotice, State.notice, clearedNotice, State.setNotice, State.updateAlert]
  · rename_i hn
    rw [State.raiseNotice_notice_ne _ hn]
    simp [State.notice, clearedNotice]

/-- At a release no cause is present, so only those of the conditions that hold are left behind. -/
theorem releasedNotices_follow (v : Vector NoticeRecord 19) (own : Notice) (s : State) :
    NoticesFollow conditionNotices (releasedNotices v own s) := by
  have hcause : ∀ n, ((releasedNotices v own s).notice n).cause = false := fun n => by
    rw [releasedNotices_notice]
    split <;> rfl
  refine ⟨State.updateAlert_alertFollows _, fun n hn => ?_, fun n hn => ?_⟩
  · rw [hcause] at hn
    exact Bool.noConfusion hn
  · rw [hcause]
    refine ⟨fun hc => Bool.noConfusion hc, fun hc => absurd ?_ hn⟩
    have := State.isCondition_of_condition hc
    exact (isCondition_iff n).mp this

theorem NoticesFollow.tellAllCauses {s : State} (h : NoticesFollow conditionNotices s) : NoticesFollow [] s.tellAllCauses :=
  ((((((((h.tellPlanGap).tellStationInvalid).tellSensorLost).tellSideFrozen).tellFillHigh).tellTruckFull).tellBeltBlocked)).tellLinkLost

theorem NoticesFollow.updateAlert {s : State} {D : List Notice} (h : NoticesFollow D s) : NoticesFollow D s.updateAlert := by
  refine ⟨State.updateAlert_alertFollows s, h.latched, fun n hD => (h.causes n hD).trans ?_⟩
  exact State.condition_congr (s := s.updateAlert) rfl rfl rfl rfl rfl rfl n

/-- The blocks' own values after a cold reset (R197), before the notices. -/
def State.coldBlocks (a b ea eb : Bool) (s : State) : State := { s with
  plan := resetPlan
  station := resetStation (classOf a b) ea eb
  monitor := resetMonitor
  left := resetSide
  right := resetSide
  banks := resetBanks
  governor := resetGovernor Config.capMax
  conveyor := resetConveyor
  link := resetLink
  sensorLink := ⟨none⟩
  timers := resetTimers
  heldReset := none }

theorem coldState_eq (a b ea eb : Bool) (s : State) : coldState a b ea eb s =
    (releasedNotices (Vector.replicate 19 (clearedNotice false)) .coldStart
      (s.coldBlocks a b ea eb)).tellAllCauses.updateAlert := rfl

/-- Right after a release the notices follow the state. -/
theorem ResetEffect.keepsNotices {s t : State} {i : Instr} (h : ResetEffect s i t) (hs : CausesOk s) :
    CausesOk t ∧ AlertOk t := by
  cases h with
  | asserted | restarted => exact ⟨State.hold_causesOk hs _, State.hold_alertOk s _⟩
  | @coldReleased a b ea eb =>
    rw [coldState_eq]
    have hfollow := (releasedNotices_follow (Vector.replicate 19 (clearedNotice false)) .coldStart
      (s.coldBlocks a b ea eb)).tellAllCauses.updateAlert
    exact ⟨hfollow.causesOk, hfollow.alertOk (by simp [releasedNotices, State.coldBlocks])⟩
  | @warmReleased ea eb =>
    have hfollow := (releasedNotices_follow s.notices.records .warmRestart (s.warmBlocks ea eb)).tellAllCauses.updateAlert
    exact ⟨hfollow.causesOk, hfollow.alertOk (by simp [releasedNotices, State.warmBlocks])⟩

/-! ### The blocks after a release (R197) -/

@[simp] theorem releasedNotices_keeps (v : Vector NoticeRecord 19) (n : Notice) (s : State) :
    (releasedNotices v n s).plan = s.plan ∧ (releasedNotices v n s).station = s.station ∧
    (releasedNotices v n s).monitor = s.monitor ∧ (releasedNotices v n s).left = s.left ∧
    (releasedNotices v n s).right = s.right ∧ (releasedNotices v n s).banks = s.banks ∧
    (releasedNotices v n s).governor = s.governor ∧ (releasedNotices v n s).conveyor = s.conveyor ∧
    (releasedNotices v n s).link = s.link ∧ (releasedNotices v n s).sensorLink = s.sensorLink ∧
    (releasedNotices v n s).timers = s.timers ∧ (releasedNotices v n s).heldReset = s.heldReset ∧
    (releasedNotices v n s).pending = s.pending := by
  simp [releasedNotices]

/-- The blocks of a cold reset (R197), the notices apart. -/
@[simp] theorem coldState_blocks (a b ea eb : Bool) (s : State) : (coldState a b ea eb s).plan = resetPlan ∧
    (coldState a b ea eb s).station = resetStation (classOf a b) ea eb ∧
    (coldState a b ea eb s).monitor = resetMonitor ∧ (coldState a b ea eb s).left = resetSide ∧
    (coldState a b ea eb s).right = resetSide ∧ (coldState a b ea eb s).banks = resetBanks ∧
    (coldState a b ea eb s).governor = resetGovernor Config.capMax ∧ (coldState a b ea eb s).conveyor = resetConveyor ∧
    (coldState a b ea eb s).link = resetLink ∧ (coldState a b ea eb s).sensorLink = ⟨none⟩ ∧
    (coldState a b ea eb s).timers = resetTimers ∧ (coldState a b ea eb s).heldReset = none ∧
    (coldState a b ea eb s).pending = s.pending := by
  simp [coldState]

/-- The blocks of a warm reset, the notices apart, are those of `warmBlocks`. -/
@[simp] theorem warmState_blocks (ea eb : Bool) (s : State) : (warmState ea eb s).plan = (s.warmBlocks ea eb).plan ∧
    (warmState ea eb s).station = (s.warmBlocks ea eb).station ∧
    (warmState ea eb s).monitor = (s.warmBlocks ea eb).monitor ∧
    (warmState ea eb s).left = (s.warmBlocks ea eb).left ∧ (warmState ea eb s).right = (s.warmBlocks ea eb).right ∧
    (warmState ea eb s).banks = s.banks ∧ (warmState ea eb s).governor = resetGovernor s.governor.cap ∧
    (warmState ea eb s).conveyor = (s.warmBlocks ea eb).conveyor ∧ (warmState ea eb s).link = resetLink ∧
    (warmState ea eb s).sensorLink = ⟨none⟩ ∧ (warmState ea eb s).timers = resetTimers ∧
    (warmState ea eb s).heldReset = none ∧ (warmState ea eb s).pending = s.pending := by
  simp [warmState, State.warmBlocks]

theorem State.LinkRuns.reset {s : State} (hlink : s.link = resetLink) (hsensor : s.sensorLink = ⟨none⟩) : s.LinkRuns := by
  refine ⟨?_, ?_, ?_, ?_, ?_, ?_, ?_⟩ <;> simp [hlink, hsensor, resetLink, Config.broadcastMs, Config.supervisionMs]

theorem State.LinkRuns.lessMs {s : State} (h : s.LinkRuns) : s.lessMs.LinkRuns := by
  refine ⟨h.queue, fun v hv => ?_, Nat.le_trans (Nat.sub_le _ _) h.timer, fun t ht => ?_, ?_, h.message, h.broadcast⟩
  · obtain ⟨m, hm, rfl⟩ := Option.map_eq_some_iff.mp hv
    exact Nat.le_trans (Nat.sub_le _ _) (h.response m hm)
  · obtain ⟨v, hv, rfl⟩ := Option.map_eq_some_iff.mp ht
    exact Nat.le_trans (Nat.sub_le _ _) (h.supervision v hv)
  · exact Option.map_eq_none_iff.trans h.loss

theorem State.hold_linkOk {s : State} (h : LinkOk s) (kind : ResetKind) : LinkOk (s.hold kind) := by
  have hs := h.runs
  exact ⟨Nat.zero_le _, by simp [State.hold], hs.timer, hs.supervision, hs.loss, by simp [State.hold],
    by simp [State.hold], fun _ => ⟨rfl, rfl, rfl, rfl, rfl⟩⟩

theorem TimersOk.lessMs {s : State} (h : TimersOk s) : TimersOk s.lessMs := by
  obtain ⟨h1, h2, h3, h4, h5, h6⟩ := h
  unfold TimersOk
  simp only [State.lessMs, IntervalTimers.passMs]
  omega

/-! ### O60: the notices, the links and the timers -/

theorem noticesAndLinks_standThrough : StandsThrough (fun s => CausesOk s ∧ AlertOk s ∧ LinkOk s ∧ TimersOk s) where
  pending _ _ h := h
  ms s hrun := by
    rintro ⟨hc, ha, hl, ht⟩
    have hnotices := (noticesFollow_of_laws hrun hc ha).lessMs
    exact ⟨hnotices.causesOk, hnotices.alertOk hrun, hl.runs.lessMs.ok hrun, ht.lessMs⟩
  take s u f hrun := by
    rintro ⟨hc, ha, hl, ht⟩ htake
    have hrun' := (State.heldReset_of_takeFrame htake).2
    have hnotices := (noticesFollow_of_laws hrun hc ha).takeFrame htake
    obtain ⟨-, -, -, -, -, -, -, -, -, htimers, -⟩ := State.takeFrame_keepsBlocks htake
    exact ⟨hnotices.causesOk, hnotices.alertOk hrun', (hl.runs.takeFrame htake).ok hrun', ht.of_eq htimers⟩
  effect s t i hrun := by
    rintro ⟨hc, ha, hl, ht⟩ heffect
    have hrun' := heffect.keepsQueue.2.trans hrun
    have hnotices := heffect.keepsNotices (noticesFollow_of_laws hrun hc ha)
    exact ⟨hnotices.causesOk, hnotices.alertOk hrun', (heffect.keepsLink hl.runs).ok hrun', heffect.keepsTimers ht⟩
  respond s q code tag a hrun := by
    rintro ⟨hc, ha, hl, ht⟩
    have hnotices := (noticesFollow_of_laws hrun hc ha).respond q code tag a
    exact ⟨hnotices.causesOk, hnotices.alertOk hrun, (hl.runs.respond q code tag a).ok hrun, ht⟩
  reset s t i := by
    rintro ⟨hc, ha, hl, ht⟩ hreset
    obtain ⟨hc', ha'⟩ := hreset.keepsNotices hc
    refine ⟨hc', ha', ?_⟩
    cases hreset with
    | asserted | restarted => exact ⟨State.hold_linkOk hl _, ht⟩
    | coldReleased =>
      exact ⟨(State.LinkRuns.reset (by simp) (by simp)).ok (by simp), resetTimers_ok (by simp)⟩
    | warmReleased =>
      exact ⟨(State.LinkRuns.reset (by simp) (by simp)).ok (by simp), resetTimers_ok (by simp)⟩

/-- Settles O60: the four laws stand through every effect, a millisecond and the resets. -/
theorem stepsKeepNoticesAndLinks : Obligations.StepsKeepNoticesAndLinks :=
  fun _ _ hinv hstep => noticesAndLinks_standThrough.step ⟨hinv.causes, hinv.alert, hinv.link, hinv.timers⟩ hstep

end Sys2Proof.Machine
end

section
/-! The Station Counter's law over every effect (R32, R37 to R43), and O59: the governor's law and the material account
stand through everything a step can do. -/
namespace Sys2Proof.Machine

/-! ### The station (R32, R37) -/

theorem StationOk.of_eq {s t : State} (h : StationOk s) (heq : t.station = s.station) : StationOk t := by
  rwa [StationOk, heq]

/-- A count moves S and f within their ranges: the encoder distance is far below a carry (R32, R39). -/
theorem StationCounter.count_ok {e : EncoderInput} {c : StationCounter} (hst : c.station ≤ 9999999) (hf : c.fine ≤ 9999)
    (hg : c.geometry.inRange = true) : (c.count e).station ≤ 9999999 ∧ (c.count e).fine ≤ 9999 := by
  have hdistance : c.geometry.encoderDistance ≤ 5000 := by
    simp only [Geometry.inRange, Bool.and_eq_true, decide_eq_true_eq] at hg
    omega
  have htravel : -5000 ≤ c.sense.orient (c.travel e) ∧ c.sense.orient (c.travel e) ≤ 5000 := by
    unfold StationCounter.travel Sense.orient
    split <;> split <;> omega
  unfold StationCounter.count
  dsimp only
  obtain ⟨st, f, v, hcount, hrange⟩ := StationCounter.accumulate_eq (c.sense.orient (c.travel e))
    (({ c with accum := c.accum + c.travel e } : StationCounter).movePhase e)
  have hsame : (({ c with accum := c.accum + c.travel e } : StationCounter).movePhase e).station = c.station ∧
      (({ c with accum := c.accum + c.travel e } : StationCounter).movePhase e).fine = c.fine := by
    cases e <;> exact ⟨rfl, rfl⟩
  rw [hcount]
  exact hrange (Nat.le_trans (Nat.le_of_eq hsame.1) hst) (Nat.le_trans (Nat.le_of_eq hsame.2) hf) htravel.1 htravel.2

theorem defaultGeometry_inRange : defaultGeometry.inRange = true := by decide

theorem Effect.keepsStation {s t : State} {i : Instr} (h : Effect s i t) (hs : StationOk s) : StationOk t := by
  obtain ⟨hst, hf, hg⟩ := hs
  have hs : StationOk s := ⟨hst, hf, hg⟩
  cases h with
  | @geometryStored r g hrange =>
    exact StationOk.of_eq (s := { s with station := { s.station with geometry := g } }) ⟨hst, hf, hrange⟩ (by simp)
  | @stationFixed r st hmax =>
    exact StationOk.of_eq (s := { s with station.station := st, station.fine := 0, station.valid := true })
      ⟨hmax, Nat.zero_le _, hg⟩ (State.fixAt_station _ s)
  | @counted e =>
    obtain ⟨hst', hf'⟩ := StationCounter.count_ok (e := e) hst hf hg
    refine StationOk.of_eq (s := { s with station := s.station.count e }) ⟨hst', hf', ?_⟩ (by simp)
    rwa [(StationCounter.count_geometry _ _).1]
  | senseSet | doubleStepped | speedFormed => exact hs
  | malformedAnswered hu =>
    obtain ⟨-, hstation, -⟩ := State.takeFrame_keepsBlocks hu
    exact hs.of_eq hstation
  | zoneStored | zoneAmended => exact hs.of_eq (by simp [State.storeZone_station])
  | bankStored => exact hs.of_eq (by simp [State.storeBank_station])
  | zoneSuspended | zoneReinstated => exact hs.of_eq (by simp [State.markSuspended_station])
  | _ => exact hs.of_eq (by simp)

theorem resetStation_ok {s : State} {k : Fin 4} {a b : Bool} (h : s.station = resetStation k a b) : StationOk s := by
  rw [StationOk, h]
  exact ⟨Nat.zero_le _, Nat.zero_le _, defaultGeometry_inRange⟩

theorem ResetEffect.keepsStation {s t : State} {i : Instr} (h : ResetEffect s i t) (hs : StationOk s) : StationOk t := by
  obtain ⟨hst, hf, hg⟩ := hs
  cases h with
  | asserted | restarted => exact ⟨hst, hf, hg⟩
  | @coldReleased a b ea eb => exact resetStation_ok (k := classOf a b) (a := ea) (b := eb) (by simp)
  | @warmReleased ea eb =>
    exact StationOk.of_eq (s := s.warmBlocks ea eb) ⟨hst, Nat.zero_le _, hg⟩ (by simp)

/-! ### The governor and the material account after a reset (R137, R155) -/

theorem ResetEffect.keepsGovernor {s t : State} {i : Instr} (h : ResetEffect s i t) (hs : GovernorOk s) : GovernorOk t := by
  cases h with
  | asserted | restarted => exact hs
  | coldReleased => exact resetGovernor_ok (cap := Config.capMax) (by simp) (by decide)
  | warmReleased => exact resetGovernor_ok (cap := s.governor.cap) (by simp) hs.1

theorem resetConveyor_ok : resetConveyor.Ok defaultGeometry := by
  refine ⟨?_, ?_, ?_, ?_, ?_, ?_, ?_, ?_, ?_, ?_, ?_, ?_, ?_⟩ <;> simp [resetConveyor, defaultGeometry]

/-- A warm reset stands the belt and keeps the account (R155). -/
theorem Conveyor.Ok.warm {g : Geometry} {c : Conveyor} (h : c.Ok g) : c.warm.Ok g :=
  { account := h.account, fill := h.fill, milled := h.milled, counter := h.counter, target := h.target
    block := Nat.zero_le _, fixedLow := h.fixedLow, fixedHigh := h.fixedHigh, speed := Nat.zero_le _
    needed := by simp [Conveyor.warm, resetConveyor]
    standing := fun _ => ⟨rfl, rfl⟩
    runOn := by simp [Conveyor.warm, resetConveyor]
    noRunOn := fun _ => ⟨rfl, rfl⟩ }

theorem ResetEffect.keepsMaterial {s t : State} {i : Instr} (h : ResetEffect s i t) (hs : MaterialOk s) : MaterialOk t := by
  cases h with
  | asserted | restarted => exact hs
  | coldReleased =>
    rw [materialOk_iff, (coldState_blocks _ _ _ _ s).2.1]
    simpa [resetStation] using resetConveyor_ok
  | @warmReleased ea eb =>
    have hwarm := (materialOk_iff.mp hs).warm
    refine MaterialOk.of_eq (s := s.warmBlocks ea eb) (materialOk_iff.mpr ?_) (by simp) (by simp)
    exact { hwarm with }

/-! ### O59 -/

theorem governorAndMaterial_standThrough :
    StandsThrough (fun s => GovernorOk s ∧ MaterialOk s ∧ StationOk s) where
  pending _ _ h := h
  ms _ _ h := h
  take s u f _ := by
    rintro ⟨hgov, hmat, hst⟩ htake
    obtain ⟨-, hstation, -, -, -, -, hgovernor, hconveyor, -⟩ := State.takeFrame_keepsBlocks htake
    exact ⟨hgov.of_eq hgovernor, hmat.of_eq hconveyor (congrArg StationCounter.geometry hstation), hst.of_eq hstation⟩
  effect s t i _ := by
    rintro ⟨hgov, hmat, hst⟩ heffect
    exact ⟨heffect.keepsGovernor hgov, heffect.keepsMaterial hmat hst, heffect.keepsStation hst⟩
  respond _ _ _ _ _ _ h := h
  reset s t i := by
    rintro ⟨hgov, hmat, hst⟩ hreset
    exact ⟨hreset.keepsGovernor hgov, hreset.keepsMaterial hmat, hreset.keepsStation hst⟩

/-- Settles O59: with the Station Counter's law, which gives the ranges the conveyor works with, the two laws stand
through every effect and the resets. -/
theorem stepsKeepTheMaterialAccount : Obligations.StepsKeepTheMaterialAccount := by
  intro s t hinv hstep
  obtain ⟨hgov, hmat, -⟩ := governorAndMaterial_standThrough.step ⟨hinv.governor, hinv.material, hinv.station⟩ hstep
  exact ⟨hgov, hmat⟩

end Sys2Proof.Machine
end

section
/-! The tables of the plan: records placed in order, numbers, and the laws of the zone table and of governance over
every effect (R3, R4, R5, R16 to R18, R21). -/
namespace Sys2Proof.Machine

/-! ### The lowest free number (R3, R21) -/

/-- The number found is free, in range, and no lower one is free. -/
theorem lowestFree_some {top n : Nat} {held : List Nat} (h : lowestFree top held = some n) :
    1 ≤ n ∧ n ≤ top ∧ n ∉ held ∧ ∀ m, 1 ≤ m → m < n → m ∈ held := by
  obtain ⟨hfree, i, hi, hni, hbefore⟩ := List.find?_eq_some_iff_getElem.mp h
  simp only [List.length_range'] at hi
  simp only [List.getElem_range', Nat.one_mul] at hni
  refine ⟨by omega, by omega, by simpa using hfree, fun m h1 hm => ?_⟩
  have := hbefore (m - 1) (by omega)
  simp only [List.getElem_range', Nat.one_mul] at this
  rw [show 1 + (m - 1) = m by omega] at this
  simpa using this

theorem lowestFree_none {top : Nat} {held : List Nat} :
    lowestFree top held = none ↔ ∀ n, 1 ≤ n → n ≤ top → n ∈ held := by
  simp only [lowestFree, List.find?_eq_none, List.mem_range'_1, Bool.not_eq_true', List.contains_iff_mem, Bool.not_eq_false,
    and_imp]
  exact ⟨fun h n h1 h2 => h n h1 (by omega), fun h n h1 h2 => h n h1 (by omega)⟩

/-! ### Zones in start order (R3) -/

theorem insertZoneSorted_perm (z : Zone) (zs : List Zone) : (insertZoneSorted z zs).Perm (z :: zs) := by
  induction zs with
  | nil => exact List.Perm.refl _
  | cons y rest ih =>
    unfold insertZoneSorted
    split
    · exact List.Perm.refl _
    · exact (ih.cons y).trans (List.Perm.swap z y rest)

theorem mem_insertZoneSorted {z w : Zone} {zs : List Zone} : w ∈ insertZoneSorted z zs ↔ w = z ∨ w ∈ zs := by
  rw [(insertZoneSorted_perm z zs).mem_iff, List.mem_cons]

/-- A table in start order stays so. -/
theorem insertZoneSorted_starts {z : Zone} {zs : List Zone}
    (h : zs.Pairwise (fun a b => a.fields.start ≤ b.fields.start)) :
    (insertZoneSorted z zs).Pairwise (fun a b => a.fields.start ≤ b.fields.start) := by
  induction zs with
  | nil => exact List.pairwise_singleton _ _
  | cons y rest ih =>
    obtain ⟨hy, hrest⟩ := List.pairwise_cons.mp h
    unfold insertZoneSorted
    split
    · refine List.pairwise_cons.mpr ⟨fun w hw => ?_, h⟩
      obtain rfl | hw := List.mem_cons.mp hw
      · omega
      · have := hy w hw
        omega
    · refine List.pairwise_cons.mpr ⟨fun w hw => ?_, ih hrest⟩
      obtain rfl | hw := mem_insertZoneSorted.mp hw
      · omega
      · exact hy w hw

theorem ZoneFields.meets_iff {a b : ZoneFields} : a.meets b = true ↔ a.start < b.stop ∧ b.start < a.stop := by
  simp [ZoneFields.meets]

theorem ZoneFields.start_lt_stop {f : ZoneFields} (h : f.inRange = true) : f.start < f.stop := by
  simp only [ZoneFields.inRange, Bool.and_eq_true, decide_eq_true_eq] at h
  omega

/-- A record that meets none of a table without overlap is placed without overlap. -/
theorem insertZoneSorted_disjoint {z : Zone} {zs : List Zone} (hz : z.fields.start < z.fields.stop)
    (hzs : ∀ y ∈ zs, y.fields.start < y.fields.stop) (hfree : ∀ y ∈ zs, y.fields.meets z.fields = false)
    (h : zs.Pairwise (fun a b => a.fields.stop ≤ b.fields.start)) :
    (insertZoneSorted z zs).Pairwise (fun a b => a.fields.stop ≤ b.fields.start) := by
  have hapart : ∀ y ∈ zs, ¬(y.fields.start < z.fields.stop ∧ z.fields.start < y.fields.stop) := fun y hy hmeet => by
    rw [← ZoneFields.meets_iff, hfree y hy] at hmeet
    exact Bool.noConfusion hmeet
  clear hfree
  induction zs with
  | nil => exact List.pairwise_singleton _ _
  | cons y rest ih =>
    obtain ⟨hy, hrest⟩ := List.pairwise_cons.mp h
    simp only [List.forall_mem_cons] at hzs hapart
    unfold insertZoneSorted
    split
    · refine List.pairwise_cons.mpr ⟨fun w hw => ?_, h⟩
      obtain rfl | hw := List.mem_cons.mp hw
      · omega
      · have h1 := hy w hw
        have h2 := hapart.2 w hw
        have h3 := hzs.2 w hw
        omega
    · refine List.pairwise_cons.mpr ⟨fun w hw => ?_, ih hzs.2 hrest hapart.2⟩
      obtain rfl | hw := mem_insertZoneSorted.mp hw
      · omega
      · exact hy w hw

/-! ### The law of the zone table (R3, R4, R5) -/

/-- What the law says of one record, for the latched drum class. -/
def Zone.ok (maxDepth : Nat) (z : Zone) : Prop :=
  1 ≤ z.number ∧ z.number ≤ 64 ∧ z.fields.inRange = true ∧
    z.clipped = (maxDepth < z.fields.leftDepth || maxDepth < z.fields.rightDepth)

/-- The law of a zone table. -/
def ZoneTable (maxDepth : Nat) (zs : List Zone) : Prop :=
  zs.Pairwise (fun a b => a.fields.stop ≤ b.fields.start) ∧ (zs.map Zone.number).Nodup ∧ ∀ z ∈ zs, z.ok maxDepth

theorem zonesOk_iff {s : State} : ZonesOk s ↔ ZoneTable s.maxDepth s.plan.zones := Iff.rfl

theorem ZonesOk.of_eq {s t : State} (h : ZonesOk s) (hzones : t.plan.zones = s.plan.zones)
    (hclass : t.station.drumClass = s.station.drumClass) : ZonesOk t := by
  rw [zonesOk_iff, hzones, State.maxDepth, hclass]
  exact h

theorem ZoneTable.insert {top : Nat} {zs : List Zone} {z : Zone} (h : ZoneTable top zs) (hz : z.ok top)
    (hnumber : z.number ∉ zs.map Zone.number) (hfree : ∀ y ∈ zs, y.fields.meets z.fields = false) :
    ZoneTable top (insertZoneSorted z zs) := by
  obtain ⟨hdisjoint, hnodup, hok⟩ := h
  have hrange := hz.2.2.1
  refine ⟨insertZoneSorted_disjoint (ZoneFields.start_lt_stop hrange)
    (fun y hy => ZoneFields.start_lt_stop (hok y hy).2.2.1) hfree hdisjoint, ?_, fun w hw => ?_⟩
  · rw [((insertZoneSorted_perm z zs).map Zone.number).nodup_iff]
    exact List.nodup_cons.mpr ⟨hnumber, hnodup⟩
  · obtain rfl | hw := mem_insertZoneSorted.mp hw
    · exact hz
    · exact hok w hw

theorem ZoneTable.sublist {top : Nat} {zs zs' : List Zone} (h : ZoneTable top zs) (hsub : zs'.Sublist zs) :
    ZoneTable top zs' :=
  ⟨h.1.sublist hsub, h.2.1.sublist (hsub.map _), fun z hz => h.2.2 z (hsub.subset hz)⟩

theorem ZoneTable.drop {top : Nat} {zs : List Zone} (h : ZoneTable top zs) (n : Nat) : ZoneTable top (dropZone n zs) :=
  h.sublist List.filter_sublist

/-- Records rewritten without their number, fields and clipped flag. -/
theorem ZoneTable.map {top : Nat} {zs : List Zone} {f : Zone → Zone} (h : ZoneTable top zs)
    (hf : ∀ z, (f z).number = z.number ∧ (f z).fields = z.fields ∧ (f z).clipped = z.clipped) :
    ZoneTable top (zs.map f) := by
  obtain ⟨hdisjoint, hnodup, hok⟩ := h
  refine ⟨?_, ?_, fun w hw => ?_⟩
  · simpa [List.pairwise_map, hf] using hdisjoint
  · have : Zone.number ∘ f = Zone.number := funext fun z => (hf z).1
    rwa [List.map_map, this]
  · obtain ⟨z, hz, rfl⟩ := List.mem_map.mp hw
    obtain ⟨h1, h2, h3, h4⟩ := hok z hz
    obtain ⟨hn, hfields, hclip⟩ := hf z
    exact ⟨hn ▸ h1, hn ▸ h2, hfields ▸ h3, by rw [hclip, hfields]; exact h4⟩

theorem number_notMem_dropZone (n : Nat) (zs : List Zone) : n ∉ (dropZone n zs).map Zone.number := by
  simp [dropZone]

theorem State.storeZone_zones (z : Zone) (zs : List Zone) (s : State) :
    (s.storeZone z zs).plan = { s.plan with zones := insertZoneSorted z zs } := by
  unfold State.storeZone
  dsimp only
  split <;> rfl

/-- The drum class changes at a cold reset only. -/
theorem Effect.keepsDrumClass {s t : State} {i : Instr} (h : Effect s i t) :
    t.station.drumClass = s.station.drumClass := by
  cases h with
  | stationFixed => simp [State.fixAt_station]
  | counted => simp [StationCounter.count_geometry]
  | senseSet | doubleStepped | speedFormed => rfl
  | malformedAnswered hu =>
    obtain ⟨-, hstation, -⟩ := State.takeFrame_keepsBlocks hu
    rw [State.respond_station, hstation]
  | zoneStored | zoneAmended => simp [State.storeZone_station]
  | bankStored => simp [State.storeBank_station]
  | zoneSuspended | zoneReinstated => simp [State.markSuspended_station]
  | _ => simp

theorem State.storeBank_plan (n : BankName) (b : Bank) (s : State) : (s.storeBank n b).plan = s.plan := by
  unfold State.storeBank
  split <;> simp

theorem State.fixAt_zones (st : Nat) (s : State) : (s.fixAt st).plan.zones = s.plan.zones := by simp [State.fixAt]

theorem Effect.keepsZones {s t : State} {i : Instr} (h : Effect s i t) (hs : ZonesOk s) : ZonesOk t := by
  have hclass := h.keepsDrumClass
  have htable := zonesOk_iff.mp hs
  -- The table a plan request leaves, whatever governance becomes of it.
  have changed : ∀ zs, ZoneTable s.maxDepth zs → t.plan.zones = zs → ZonesOk t := fun zs hzs heq => by
    rw [zonesOk_iff, heq, State.maxDepth, hclass]
    exact hzs
  cases h with
  | @zoneStored _ f n hf hfree hn =>
    obtain ⟨h1, h2, hheld, -⟩ := lowestFree_some hn
    have hz : Zone.ok s.maxDepth ⟨n, f, false, s.isClipped f⟩ := ⟨h1, h2, hf, rfl⟩
    exact changed _ (htable.insert hz hheld hfree) (by simp [State.storeZone_zones])
  | @zoneAmended _ f z hz hf hfree =>
    obtain ⟨h1, h2, -⟩ := htable.2.2 _ hz
    have hz : Zone.ok s.maxDepth ⟨z.number, f, z.suspended, s.isClipped f⟩ := ⟨h1, h2, hf, rfl⟩
    exact changed _ ((htable.drop _).insert hz (number_notMem_dropZone _ _) hfree)
      (by simp [State.storeZone_zones])
  | zoneSuspended | zoneReinstated =>
    refine changed _ (htable.map ?_) (State.reevaluate_zones _ _)
    intro z
    split <;> exact ⟨rfl, rfl, rfl⟩
  | zoneRetired => exact changed _ (htable.drop _) (State.reevaluate_zones _ _)
  | planCleared => exact changed _ (htable.sublist (List.nil_sublist _)) (State.reevaluate_zones _ _)
  | stationFixed => exact hs.of_eq (State.fixAt_zones _ s) hclass
  | bankStored => exact hs.of_eq (by rw [State.storeBank_plan]) hclass
  | malformedAnswered hu =>
    obtain ⟨hplan, -⟩ := State.takeFrame_keepsBlocks hu
    exact hs.of_eq (congrArg PlanStore.zones hplan) hclass
  | _ => exact hs.of_eq (by simp) hclass

/-! ### Governance (R16, R17, R18) -/

theorem GovernanceOk.of_eq {s t : State} (h : GovernanceOk s) (hzones : t.plan.zones = s.plan.zones)
    (hgoverning : t.plan.governing = s.plan.governing) (hst : t.station.station = s.station.station)
    (hvalid : t.station.valid = s.station.valid) : GovernanceOk t := by
  have hforce : ∀ z, t.inForce z ↔ s.inForce z := fun z => by simp only [State.inForce, hst, hvalid]
  simpa only [GovernanceOk, hzones, hgoverning, hforce] using h

theorem State.takeGovernance_governing (z : Zone) (s : State) :
    (s.takeGovernance z).plan.governing = some z.number := by
  simp [State.takeGovernance]

theorem State.loseGovernance_governing (s : State) : s.loseGovernance.plan.governing = none := by
  simp [State.loseGovernance]

/-- Re-evaluation settles governance, whatever number stood before (R16). -/
theorem State.reevaluate_governanceOk (amended : Option Nat) (s : State) : GovernanceOk (s.reevaluate amended) := by
  have hforce : ∀ z, (s.reevaluate amended).inForce z ↔ s.inForce z := fun z => by simp [State.inForce]
  have hgoverning : (s.reevaluate amended).plan.governing = s.candidate.map Zone.number := by
    obtain ⟨heq, hgov⟩ | ⟨z, hz, heq⟩ | ⟨hz, -, heq⟩ := State.reevaluate_cases amended s
    · rw [heq, hgov]
    · rw [heq, State.takeGovernance_governing, hz]
      rfl
    · rw [heq, State.loseGovernance_governing, hz]
      rfl
  simp only [GovernanceOk, hforce, State.reevaluate_zones, hgoverning]
  cases hc : s.candidate with
  | none => exact State.candidate_none hc
  | some z =>
    obtain ⟨hmem, hin⟩ := State.candidate_some hc
    exact ⟨z, hmem, rfl, hin⟩

theorem GovernanceOk.tellCause {s : State} (h : GovernanceOk s) (n : Notice) (b : Bool) : GovernanceOk (s.tellCause n b) :=
  h.of_eq (by simp) (by simp) (by simp) (by simp)

/-- A change of the station is handed to the Plan Store (R41). -/
theorem GovernanceOk.stationChanged {s : State} {c : StationCounter} (h : GovernanceOk s) :
    GovernanceOk (({ s with station := c } : State).stationChanged s.station) := by
  obtain ⟨hst, hvalid, heq⟩ | ⟨-, heq⟩ := State.stationChanged_cases s.station { s with station := c } <;> rw [heq]
  · exact h.of_eq rfl rfl hst.symm hvalid.symm
  · exact (State.reevaluate_governanceOk none _).tellCause _ _

theorem Effect.keepsGovernance {s t : State} {i : Instr} (h : Effect s i t) (hs : GovernanceOk s) : GovernanceOk t := by
  cases h with
  | zoneStored | zoneAmended | zoneSuspended | zoneReinstated | zoneRetired | planCleared =>
    exact State.reevaluate_governanceOk _ _
  | stationFixed | counted => exact hs.stationChanged
  | bankStored =>
    exact hs.of_eq (by rw [State.storeBank_plan]) (by rw [State.storeBank_plan]) (by rw [State.storeBank_station])
      (by rw [State.storeBank_station])
  | malformedAnswered hu =>
    obtain ⟨hplan, hstation, -⟩ := State.takeFrame_keepsBlocks hu
    exact hs.of_eq (congrArg PlanStore.zones hplan) (congrArg PlanStore.governing hplan)
      (congrArg StationCounter.station hstation) (congrArg StationCounter.valid hstation)
  | _ => exact hs.of_eq (by simp) (by simp) (by simp) (by simp)

end Sys2Proof.Machine
end

section
/-! What a change of governance leaves of each side (O14), the laws of the mark table under every effect, and with
them every law of the plan and the station (O57). -/
namespace Sys2Proof.Machine

/-! ### The sides at a change of governance (R50, R55, R56, R65, R116, R124) -/

theorem State.measuredDepth_congr {s t : State} (h : t.monitor = s.monitor) (x : Side) :
    t.measuredDepth x = s.measuredDepth x := by
  simp only [State.measuredDepth, State.roleChannel, State.channel, h]

theorem State.crossSlope_congr {s t : State} (h : t.monitor = s.monitor) : t.crossSlope = s.crossSlope := by
  simp only [State.crossSlope, State.roleChannel, State.channel, h]

theorem State.slopeCapture_congr {s t : State} {x : Side} (hmonitor : t.monitor = s.monitor) (hside : t.side x = s.side x) :
    t.slopeCapture x = s.slopeCapture x := by
  simp only [State.slopeCapture, State.crossSlope_congr hmonitor, hside]

theorem State.captureSide_side_congr {s t : State} (z : Zone) {x : Side} (hmonitor : t.monitor = s.monitor)
    (hstation : t.station = s.station) (hside : t.side x = s.side x) :
    (t.captureSide z x).side x = (s.captureSide z x).side x := by
  simp only [State.captureSide_side, hside, hstation, State.slopeCapture_congr hmonitor hside,
    State.measuredDepth_congr hmonitor, State.clampDepth, State.maxDepth]

theorem State.releaseSide_side_congr {s t : State} {x : Side} (hmonitor : t.monitor = s.monitor)
    (hside : t.side x = s.side x) : (t.releaseSide x).side x = (s.releaseSide x).side x := by
  simp only [State.releaseSide_side, hside, State.slopeCapture_congr hmonitor hside]

/-- The sides' held demands when a material class is handed over (R124). -/
theorem State.handClass_side_eq (material : Nat) (s : State) (x : Side) :
    (s.handClass material).side x = { s.side x with
      demand := if s.banks.active = bankOfClass material then (s.side x).demand
        else (s.bank (bankOfClass material)).limit (s.side x).demand } := by
  unfold State.handClass
  split
  · rfl
  · cases x <;> cases hbank : bankOfClass material <;> rfl

/-- The state in which the entry captures of R17 are made: the number and the bank are the zone's. -/
def State.governedBy (z : Zone) (s : State) : State :=
  (({ s with plan.governing := some z.number } : State).raiseNotice .zoneEntered).handClass z.fields.material

@[simp] theorem State.governedBy_station (z : Zone) (s : State) : (s.governedBy z).station = s.station := by
  simp [State.governedBy]

@[simp] theorem State.governedBy_monitor (z : Zone) (s : State) : (s.governedBy z).monitor = s.monitor := by
  simp [State.governedBy]

theorem State.governedBy_side (z : Zone) (s : State) (x : Side) :
    (s.governedBy z).side x = { s.side x with
      demand := if s.banks.active = bankOfClass z.fields.material then (s.side x).demand
        else (s.bank (bankOfClass z.fields.material)).limit (s.side x).demand } := by
  unfold State.governedBy
  rw [State.handClass_side_eq]
  rfl

theorem State.takeGovernance_side (z : Zone) (x : Side) (s : State) :
    (s.takeGovernance z).side x = ((s.governedBy z).captureSide z x).side x := by
  change (((((s.governedBy z).captureSide z .left).captureSide z .right).tellPlanGap).side x) = _
  rw [State.tellPlanGap, State.tellCause_side]
  cases x with
  | left => exact State.captureSide_other z .right _
  | right => exact State.captureSide_side_congr z (by simp) (by simp) (State.captureSide_other z .left _)

theorem State.loseGovernance_side (x : Side) (s : State) : s.loseGovernance.side x = (s.releaseSide x).side x := by
  have hground : ∀ y, (({ s with plan.governing := none } : State).releaseSide y).side y = (s.releaseSide y).side y :=
    fun y => State.releaseSide_side_congr rfl rfl
  change ((((({ s with plan.governing := none } : State).releaseSide .left).releaseSide .right).tellPlanGap).side x) = _
  rw [State.tellPlanGap, State.tellCause_side, ← hground]
  cases x with
  | left => exact State.releaseSide_other .right _
  | right => exact State.releaseSide_side_congr (by simp) (State.releaseSide_other .left _)

/-- Settles O14: the captures and releases of the two sides do not touch each other. -/
theorem governanceReachesTheSides : Obligations.GovernanceReachesTheSides := by
  unfold Obligations.GovernanceReachesTheSides
  refine fun s x => ⟨fun z => ?_, ?_⟩
  · dsimp only
    rw [State.takeGovernance_side, State.captureSide_side]
    simp only [State.governedBy_side, State.governedBy_station, State.slopeCapture, State.clampDepth, State.maxDepth,
      State.measuredDepth_congr (State.governedBy_monitor z s), State.crossSlope_congr (State.governedBy_monitor z s)]
    by_cases hauto : (s.side x).state = .auto
    · rw [if_pos hauto, if_pos hauto]
      rfl
    · rw [if_neg hauto, if_neg hauto]
      cases s.measuredDepth x with
      | some m => rfl
      | none => cases x <;> rfl
  · dsimp only
    rw [State.loseGovernance_side, State.releaseSide_side]
    rfl

/-! ### What governance leaves of the sides -/

/-- The parts of a side that no operation of the plan and the banks writes. -/
@[reducible] def KeepsRun (s t : State) (x : Side) : Prop :=
  (t.side x).state = (s.side x).state ∧ (t.side x).mode = (s.side x).mode ∧ (t.side x).trim = (s.side x).trim ∧
    (t.side x).lease = (s.side x).lease ∧ (t.side x).settle = (s.side x).settle ∧
    (t.side x).referencing = (s.side x).referencing ∧
    (t.side x).context.override = (s.side x).context.override ∧ (t.side x).context.offer = (s.side x).context.offer

section
variable (s : State) (x : Side)

@[simp] theorem State.takeGovernance_keepsRun (z : Zone) : KeepsRun s (s.takeGovernance z) x := by
  by_cases hauto : (s.side x).state = .auto <;>
    simp [KeepsRun, State.takeGovernance_side, State.captureSide_side, State.governedBy_side, hauto]

@[simp] theorem State.loseGovernance_keepsRun : KeepsRun s s.loseGovernance x := by
  by_cases hauto : (s.side x).state = .auto <;>
    simp [KeepsRun, State.loseGovernance_side, State.releaseSide_side, hauto]

@[simp] theorem State.reevaluate_keepsRun (amended : Option Nat) : KeepsRun s (s.reevaluate amended) x := by
  obtain ⟨heq, -⟩ | ⟨z, -, heq⟩ | ⟨-, -, heq⟩ := State.reevaluate_cases amended s <;> rw [heq]
  · exact ⟨rfl, rfl, rfl, rfl, rfl, rfl, rfl, rfl⟩
  · exact State.takeGovernance_keepsRun s x z
  · exact State.loseGovernance_keepsRun s x

@[simp] theorem State.limitDemands_keepsRun : KeepsRun s s.limitDemands x := by cases x <;> simp [KeepsRun, State.side, State.limitDemands, SideLoop.limitTo]

end

/-- A change of the station hands its sides to governance. -/
theorem State.stationChanged_keepsRun (s : State) (c : StationCounter) (x : Side) :
    KeepsRun s (({ s with station := c } : State).stationChanged s.station) x := by
  obtain ⟨-, -, heq⟩ | ⟨-, heq⟩ := State.stationChanged_cases s.station { s with station := c }
  · rw [heq]
    exact ⟨rfl, rfl, rfl, rfl, rfl, rfl, rfl, rfl⟩
  · rw [heq, State.tellStationInvalid, KeepsRun, State.tellCause_side]
    exact State.reevaluate_keepsRun _ x none

/-! ### The mark table (R21, R22, R23) and the MARK_AHEAD memory (R48, R57, R71) -/

/-- The table order of marks (R21). -/
def Mark.notAfter (a b : Mark) : Prop :=
  a.fields.start < b.fields.start ∨ (a.fields.start = b.fields.start ∧ a.number ≤ b.number)

theorem Mark.before_iff {a b : Mark} : a.before b = true ↔
    a.fields.start < b.fields.start ∨ (a.fields.start = b.fields.start ∧ a.number < b.number) := by
  simp [Mark.before]

theorem insertMarkSorted_perm (m : Mark) (ms : List Mark) : (insertMarkSorted m ms).Perm (m :: ms) := by
  induction ms with
  | nil => exact .refl _
  | cons y rest ih =>
    unfold insertMarkSorted
    split
    · exact .refl _
    · exact (ih.cons y).trans (.swap m y rest)

theorem insertMarkSorted_inOrder {m : Mark} {ms : List Mark} (h : ms.Pairwise Mark.notAfter) :
    (insertMarkSorted m ms).Pairwise Mark.notAfter := by
  induction ms with
  | nil => exact List.pairwise_singleton _ _
  | cons y rest ih =>
    obtain ⟨hy, hrest⟩ := List.pairwise_cons.mp h
    unfold insertMarkSorted
    split
    · rename_i hbefore
      rw [Mark.before_iff] at hbefore
      refine List.pairwise_cons.mpr ⟨fun k hk => ?_, h⟩
      obtain rfl | hk := List.mem_cons.mp hk
      · exact hbefore.imp_right fun h => ⟨h.1, Nat.le_of_lt h.2⟩
      · have := hy k hk
        unfold Mark.notAfter at *
        omega
    · rename_i hafter
      rw [Mark.before_iff] at hafter
      refine List.pairwise_cons.mpr ⟨fun k hk => ?_, ih hrest⟩
      obtain rfl | hk := List.mem_cons.mp ((insertMarkSorted_perm m rest).mem_iff.mp hk)
      · unfold Mark.notAfter
        omega
      · exact hy k hk

/-- With distinct numbers the table order is strict. -/
theorem marks_inOrder_iff {ms : List Mark} (h : (ms.map Mark.number).Nodup) :
    ms.Pairwise (fun a b => a.fields.start < b.fields.start ∨
      (a.fields.start = b.fields.start ∧ a.number < b.number)) ↔ ms.Pairwise Mark.notAfter := by
  have hne : ms.Pairwise (fun a b => a.number ≠ b.number) := List.pairwise_map.mp h
  refine ⟨fun hlt => hlt.imp fun hab => hab.imp_right fun h => ⟨h.1, Nat.le_of_lt h.2⟩, fun hle => (hle.and hne).imp ?_⟩
  rintro a b ⟨hle, hab⟩
  unfold Mark.notAfter at hle
  omega

/-- What holds of one mark. -/
def Mark.ok (s : State) (m : Mark) : Prop :=
  1 ≤ m.number ∧ m.number ≤ 32 ∧ m.fields.inRange s.maxDepth = true ∧ m.sideOk s .left ∧ m.sideOk s .right ∧
    (m.memory.announced = true → m.memory.insideLeft = true ∨ m.memory.insideRight = true)

/-- The mark table keeps its law where its order, its numbers and each of its marks do. -/
theorem marksOk_iff {s : State} : MarksOk s ↔
    s.plan.marks.Pairwise Mark.notAfter ∧ (s.plan.marks.map Mark.number).Nodup ∧ ∀ m ∈ s.plan.marks, m.ok s := by
  unfold MarksOk
  constructor
  · rintro ⟨horder, hnodup, hok⟩
    exact ⟨(marks_inOrder_iff hnodup).mp horder, hnodup, hok⟩
  · rintro ⟨horder, hnodup, hok⟩
    exact ⟨(marks_inOrder_iff hnodup).mpr horder, hnodup, hok⟩

theorem Mark.sideOk.of_eq {s t : State} {x : Side} {m : Mark} (h : m.sideOk s x)
    (hvalid : t.station.valid = false → s.station.valid = false)
    (hauto : (s.side x).state = .auto → (t.side x).state = .auto) : m.sideOk t x := by
  obtain ⟨hclear, hunknown, hinside⟩ := h
  exact ⟨hclear, fun hc hv => hunknown hc (hvalid hv), fun hi => ⟨(hinside hi).1, hauto (hinside hi).2⟩⟩

theorem Mark.ok.of_eq {s t : State} {m : Mark} (h : m.ok s) (hclass : t.station.drumClass = s.station.drumClass)
    (hvalid : t.station.valid = false → s.station.valid = false)
    (hauto : ∀ x, (s.side x).state = .auto → (t.side x).state = .auto) : m.ok t := by
  obtain ⟨h1, h2, hrange, hleft, hright, hannounced⟩ := h
  refine ⟨h1, h2, ?_, hleft.of_eq hvalid (hauto _), hright.of_eq hvalid (hauto _), hannounced⟩
  rwa [State.maxDepth, hclass]

/-- The marks are rewritten one by one, without their numbers and fields. -/
theorem MarksOk.of_map {s t : State} {f : Mark → Mark} (h : MarksOk s) (hmarks : t.plan.marks = s.plan.marks.map f)
    (hf : ∀ m, (f m).number = m.number ∧ (f m).fields = m.fields) (hok : ∀ m, m.ok s → (f m).ok t) : MarksOk t := by
  obtain ⟨horder, hnodup, hall⟩ := marksOk_iff.mp h
  refine marksOk_iff.mpr ⟨?_, ?_, ?_⟩ <;> rw [hmarks]
  · refine List.pairwise_map.mpr (horder.imp fun hab => ?_)
    simpa only [Mark.notAfter, hf] using hab
  · have : Mark.number ∘ f = Mark.number := funext fun m => (hf m).1
    rwa [List.map_map, this]
  · intro m hm
    obtain ⟨k, hk, rfl⟩ := List.mem_map.mp hm
    exact hok k (hall k hk)

/-- The marks stand, and no side leaves AUTO. -/
theorem MarksOk.of_eq {s t : State} (h : MarksOk s) (hmarks : t.plan.marks = s.plan.marks)
    (hclass : t.station.drumClass = s.station.drumClass) (hvalid : t.station.valid = false → s.station.valid = false)
    (hauto : ∀ x, (s.side x).state = .auto → (t.side x).state = .auto) : MarksOk t :=
  h.of_map (f := id) (by simpa using hmarks) (fun _ => ⟨rfl, rfl⟩) fun _ hm => hm.of_eq hclass hvalid hauto

/-- A mark as its insertion leaves it keeps the law in every state. -/
theorem freshMark_ok {s : State} {n : Nat} {f : MarkFields} (h1 : 1 ≤ n) (h2 : n ≤ 32)
    (hf : f.inRange s.maxDepth = true) : (freshMark n f).ok s := by
  have hside : ∀ x, (freshMark n f).sideOk s x := fun x => by
    cases x <;> simp +contextual [Mark.sideOk, freshMark, Mark.position, Mark.inside, freshPosition, rearmed]
  exact ⟨h1, h2, hf, hside _, hside _, fun h => Bool.noConfusion h⟩

theorem Mark.forgetPosition_ok {s t : State} {m : Mark} (h : m.ok s) (hclass : t.station.drumClass = s.station.drumClass)
    (hauto : ∀ x, (s.side x).state = .auto → (t.side x).state = .auto) : m.forgetPosition.ok t := by
  obtain ⟨h1, h2, hrange, hleft, hright, hannounced⟩ := h
  have hfresh : ∀ x, m.sideOk s x → m.forgetPosition.sideOk t x := by
    rintro x ⟨-, -, hinside⟩
    have hpos : m.forgetPosition.position x = freshPosition m.fields x := by cases x <;> rfl
    refine ⟨fun hc => ?_, fun hc _ => ?_, fun hi => ?_⟩
    · have hc : m.fields.covers x = false := hc
      simp [hpos, freshPosition, hc]
    · have hc : m.fields.covers x = true := hc
      simp [hpos, freshPosition, hc]
    · have hi : m.inside x = true := by cases x <;> exact hi
      exact ⟨(hinside hi).1, hauto x (hinside hi).2⟩
  refine ⟨h1, h2, ?_, hfresh _ hleft, hfresh _ hright, hannounced⟩
  rwa [State.maxDepth, hclass]

/-- A mark when a side leaves AUTO (R57). -/
theorem Mark.leftBy_ok {s t : State} {m : Mark} {x : Side} (h : m.ok s) (hstation : t.station = s.station)
    (hother : t.side (otherSide x) = s.side (otherSide x)) : (m.leftBy x).ok t := by
  obtain ⟨h1, h2, hrange, hleft, hright, hannounced⟩ := h
  have hmax : t.maxDepth = s.maxDepth := by rw [State.maxDepth, hstation]; rfl
  have hmoved : ∀ y, (m.sideOk s y) → (m.leftBy x).sideOk t y := by
    rintro y ⟨hclear, hunknown, hinside⟩
    have hpos : (m.leftBy x).position y = m.position y := by cases y <;> rfl
    refine ⟨fun hc => hpos.trans (hclear hc), fun hc hv => hpos.trans (hunknown hc (hstation ▸ hv)), fun hi => ?_⟩
    cases x <;> cases y <;> simp only [Mark.leftBy, Mark.inside, Bool.false_eq_true, otherSide] at hi hother ⊢
    · exact ⟨(hinside hi).1, hother ▸ (hinside hi).2⟩
    · exact ⟨(hinside hi).1, hother ▸ (hinside hi).2⟩
  refine ⟨h1, h2, hmax ▸ hrange, hmoved _ hleft, hmoved _ hright, fun ha => ?_⟩
  cases x <;> simp only [Mark.leftBy] at ha ⊢ <;> split at ha <;> simp_all

/-! ### The mark table under the operations -/

section
variable {s : State}

theorem MarksOk.sublist (h : MarksOk s) {ms : List Mark} (hsub : ms.Sublist s.plan.marks) :
    MarksOk { s with plan.marks := ms } := by
  obtain ⟨horder, hnodup, hall⟩ := marksOk_iff.mp h
  exact marksOk_iff.mpr ⟨horder.sublist hsub, hnodup.sublist (hsub.map _), fun m hm => hall m (hsub.subset hm)⟩

theorem MarksOk.insert (h : MarksOk s) {n : Nat} {f : MarkFields} (h1 : 1 ≤ n) (h2 : n ≤ 32)
    (hf : f.inRange s.maxDepth = true) (hfree : n ∉ s.plan.marks.map Mark.number) :
    MarksOk { s with plan.marks := insertMarkSorted (freshMark n f) s.plan.marks } := by
  obtain ⟨horder, hnodup, hall⟩ := marksOk_iff.mp h
  have hperm := insertMarkSorted_perm (freshMark n f) s.plan.marks
  refine marksOk_iff.mpr ⟨insertMarkSorted_inOrder horder, ?_, fun m hm => ?_⟩
  · exact (hperm.map Mark.number).nodup_iff.mpr (List.nodup_cons.mpr ⟨hfree, hnodup⟩)
  · obtain rfl | hm := List.mem_cons.mp (hperm.mem_iff.mp hm)
    · exact freshMark_ok h1 h2 hf
    · exact hall m hm

theorem MarksOk.stationChanged {c : StationCounter} (h : MarksOk s) (hclass : c.drumClass = s.station.drumClass) :
    MarksOk (({ s with station := c } : State).stationChanged s.station) := by
  have hauto := fun x => (State.stationChanged_keepsRun s c x).1
  obtain ⟨-, hvalid, heq⟩ | ⟨-, heq⟩ := State.stationChanged_cases s.station { s with station := c }
  · rw [heq]
    exact h.of_eq (t := { s with station := c }) rfl hclass (fun hc => hvalid.trans hc) fun _ h => h
  · by_cases hlost : (s.station.valid && !c.valid) = true
    · refine h.of_map (f := Mark.forgetPosition) ?_ (fun _ => ⟨rfl, rfl⟩) fun m hm => ?_
      · rw [heq]
        simp only [hlost, ↓reduceIte, State.tellStationInvalid, State.tellCause_plan, State.reevaluate_marks]
      · refine Mark.forgetPosition_ok hm ?_ fun x hx => (hauto x).trans hx
        rw [heq]
        simpa using hclass
    · refine h.of_eq ?_ ?_ ?_ fun x hx => (hauto x).trans hx <;> rw [heq]
      · simp only [hlost, Bool.false_eq_true, ↓reduceIte, State.tellStationInvalid, State.tellCause_plan, State.reevaluate_marks]
      · simpa using hclass
      · simp only [Bool.and_eq_true, Bool.not_eq_true', not_and, Bool.not_eq_false] at hlost
        intro hv
        have hv : c.valid = false := by simpa using hv
        refine Classical.byContradiction fun hs => ?_
        rw [hlost (by simpa using hs)] at hv
        exact Bool.noConfusion hv

/-- The marks as a side that leaves AUTO leaves them (R57). -/
theorem MarksOk.leaveAuto (h : MarksOk s) (x : Side) (dest : SideState) : MarksOk (s.leaveAuto x dest) :=
  h.of_map (f := Mark.leftBy x) (by rw [State.leaveAuto_marks]) (fun m => ⟨rfl, rfl⟩) fun m hm =>
    Mark.leftBy_ok hm (by simp) (State.leaveAuto_other x dest s)

/-- A side that is not in AUTO is rewritten. -/
theorem MarksOk.setSide (h : MarksOk s) {x : Side} {v : SideLoop} (hx : (s.side x).state = .auto → v.state = .auto) :
    MarksOk (s.setSide x v) := by
  refine h.of_eq (by simp) (by simp) (by simp) fun y hy => ?_
  by_cases hyx : y = x
  · subst hyx
    rw [State.setSide_side_same]
    exact hx hy
  · rwa [State.setSide_side_ne s hyx]

/-- The blocks the marks' law reads stand. -/
theorem MarksOk.keep {t : State} (h : MarksOk s) (hplan : t.plan = s.plan) (hstation : t.station = s.station)
    (hside : ∀ x, t.side x = s.side x) : MarksOk t :=
  h.of_eq (by rw [hplan]) (by rw [hstation]) (by rw [hstation]; exact id) fun x hx => by rwa [hside]

theorem MarksOk.tell (h : MarksOk s) (n : Notice) (b : Bool) : MarksOk (s.tellCause n b) :=
  h.keep (by simp) (by simp) (by simp)

theorem MarksOk.raise (h : MarksOk s) (n : Notice) : MarksOk (s.raiseNotice n) := h.keep rfl rfl fun _ => rfl

theorem MarksOk.freeze (h : MarksOk s) (x : Side) : MarksOk (s.freeze x) := (h.leaveAuto x .frozen).tell _ _

theorem MarksOk.failReferencing (h : MarksOk s) {x : Side} (href : (s.side x).state = .referencing) :
    MarksOk (s.failReferencing x) :=
  (h.setSide fun hx => absurd (hx.symm.trans href) (by decide)).raise _

theorem MarksOk.gradeLost (h : MarksOk s) (x : Side) : MarksOk (s.gradeLost x) := by
  obtain ⟨-, heq⟩ | ⟨href, heq⟩ | ⟨-, -, heq⟩ := State.gradeLost_cases x s <;> rw [heq]
  · exact h.freeze x
  · exact h.failReferencing href
  · exact h

theorem MarksOk.slopeLost (h : MarksOk s) (x : Side) : MarksOk (s.slopeLost x) := by
  obtain ⟨-, -, heq⟩ | ⟨-, heq⟩ := State.slopeLost_cases x s <;> rw [heq]
  · exact h.freeze x
  · exact h

theorem MarksOk.loadLost (h : MarksOk s) (x : Side) : MarksOk (s.loadLost x) := by
  obtain ⟨href, heq⟩ | ⟨-, heq⟩ := State.loadLost_cases x s <;> rw [heq]
  · exact h.failReferencing href
  · exact h

theorem MarksOk.handOver (h : MarksOk s) (n : Fin 8) (before : Channel) : MarksOk (s.handOver n before) := by
  obtain heq | ⟨r, -, t, heq, ht⟩ := State.handOver_cases n before s <;> rw [heq]
  · exact h
  · refine MarksOk.tell ?_ _ _
    obtain rfl | ⟨-, -, ⟨-, rfl⟩ | ⟨-, rfl⟩ | ⟨-, rfl⟩⟩ | ⟨-, rfl⟩ := ht
    · exact h
    · exact h.gradeLost _
    · exact h.gradeLost _
    · exact (h.slopeLost _).slopeLost _
    · exact (h.loadLost _).loadLost _

theorem MarksOk.setChannel (h : MarksOk s) (n : Fin 8) (c : Channel) : MarksOk (s.setChannel n c) :=
  h.keep rfl rfl fun _ => rfl

theorem MarksOk.takeReading (h : MarksOk s) (r : Reading) : MarksOk (s.takeReading r) := by
  unfold State.takeReading
  split
  · exact h
  · split
    · exact h
    · exact (h.setChannel _ _).handOver _ _

theorem MarksOk.expireFreshness (h : MarksOk s) (n : Fin 8) : MarksOk (s.expireFreshness n) := by
  unfold State.expireFreshness
  dsimp only
  split
  · exact (h.setChannel _ _).handOver _ _
  · exact h

theorem MarksOk.restartSettle (h : MarksOk s) (x : Side) : MarksOk (s.restartSettle x) := h.setSide id

theorem MarksOk.transfer (h : MarksOk s) (r : Role) (n : Fin 8) : MarksOk (s.transfer r n) := by
  have hrole : ∀ (t : State) (q : Role), MarksOk t → MarksOk (t.setRole q (some n)) := fun t q ht =>
    ht.keep rfl rfl fun _ => rfl
  have grade : ∀ x, MarksOk (s.transferGrade x n) := fun x =>
    ((hrole _ _ (h.setChannel n _)).restartSettle x).tell _ _
  cases r with
  | leftGrade => exact grade .left
  | rightGrade => exact grade .right
  | crossSlope =>
    have hmoved := hrole s .crossSlope h
    refine MarksOk.tell ?_ _ _
    split <;> split
    · exact (hmoved.restartSettle _).restartSettle _
    · exact hmoved.restartSettle _
    · exact hmoved.restartSettle _
    · exact hmoved
  | drumLoad | beltPressure => exact h

theorem MarksOk.enterAuto (h : MarksOk s) (x : Side) : MarksOk (s.enterAuto x) :=
  ((((h.setSide fun _ => rfl).restartSettle x).tell _ _).tell _ _).tell _ _

theorem MarksOk.disengageSide (h : MarksOk s) (x : Side) : MarksOk (s.disengageSide x) := by
  unfold State.disengageSide
  dsimp only
  cases hstate : (s.side x).state <;> dsimp only
  case idle => exact h
  case auto => exact h.leaveAuto x .idle
  case frozen => exact (h.setSide fun hx => absurd (hx.symm.trans hstate) (by decide)).tell _ _
  all_goals exact h.setSide fun hx => absurd (hx.symm.trans hstate) (by decide)

theorem MarksOk.toManual (h : MarksOk s) (x : Side) : MarksOk (s.toManual x) := by
  unfold State.toManual
  dsimp only
  cases hstate : (s.side x).state <;> dsimp only
  case manual => exact h
  case auto => exact h.leaveAuto x .manual
  case frozen => exact (h.setSide fun hx => absurd (hx.symm.trans hstate) (by decide)).tell _ _
  all_goals exact h.setSide fun hx => absurd (hx.symm.trans hstate) (by decide)

end

/-! ### A mark after a computation (R23, R71) -/

section
variable (s : State) (x : Side) (dref : Int) (m : Mark)

theorem State.markAfter_position : (s.markAfter x dref m).position x =
    if s.station.valid = true ∧ m.fields.covers x = true then s.positionOf dref m.fields else m.position x := by
  unfold State.markAfter
  cases x <;> dsimp only <;> split <;> simp_all [Mark.position, Mark.setPosition]

theorem State.markAfter_position_other :
    (s.markAfter x dref m).position (otherSide x) = m.position (otherSide x) := by
  unfold State.markAfter
  cases x <;> dsimp only <;> split <;> rfl

theorem State.markAfter_inside : (s.markAfter x dref m).inside x = s.insideNow x dref m.fields := by
  unfold State.markAfter
  cases x <;> rfl

theorem State.markAfter_inside_other : (s.markAfter x dref m).inside (otherSide x) = m.inside (otherSide x) := by
  unfold State.markAfter
  cases x <;> rfl

theorem State.markAfter_announced : (s.markAfter x dref m).memory.announced =
    ((m.memory.announced || s.insideNow x dref m.fields) &&
      ((s.markAfter x dref m).memory.insideLeft || (s.markAfter x dref m).memory.insideRight)) := by
  unfold State.markAfter
  cases x <;> rfl

end

theorem State.covers_of_insideNow {s : State} {x : Side} {dref : Int} {f : MarkFields}
    (h : s.insideNow x dref f = true) : f.covers x = true := by
  simp only [State.insideNow, Bool.and_eq_true] at h
  exact h.1.1

theorem State.markAfter_ok {s t : State} {x : Side} {dref : Int} {m : Mark} (h : m.ok s) (hstation : t.station = s.station)
    (hauto : (t.side x).state = .auto) (hother : t.side (otherSide x) = s.side (otherSide x)) :
    (s.markAfter x dref m).ok t := by
  obtain ⟨h1, h2, hrange, hleft, hright, -⟩ := h
  have hfields := State.markAfter_fields x s dref m
  have hnumber := State.markAfter_number x s dref m
  have hsame : m.sideOk s x → (s.markAfter x dref m).sideOk t x := by
    rintro ⟨hclear, hunknown, -⟩
    rw [Mark.sideOk, State.markAfter_position, State.markAfter_inside, hfields, hstation]
    refine ⟨fun hc => ?_, fun hc hv => ?_, fun hi => ⟨State.covers_of_insideNow hi, hauto⟩⟩
    · simpa [hc] using hclear hc
    · simpa [hv] using hunknown hc hv
  have hkept : m.sideOk s (otherSide x) → (s.markAfter x dref m).sideOk t (otherSide x) := by
    intro h
    rw [Mark.sideOk, State.markAfter_position_other, State.markAfter_inside_other, hfields]
    exact h.of_eq (by rw [hstation]; exact id) (by rw [hother]; exact id)
  have hboth : (s.markAfter x dref m).sideOk t .left ∧ (s.markAfter x dref m).sideOk t .right := by
    cases x with
    | left => exact ⟨hsame hleft, hkept hright⟩
    | right => exact ⟨hkept hleft, hsame hright⟩
  refine ⟨hnumber ▸ h1, hnumber ▸ h2, ?_, hboth.1, hboth.2, fun ha => ?_⟩
  · rw [hfields, State.maxDepth, hstation]
    exact hrange
  · rw [State.markAfter_announced, Bool.and_eq_true, Bool.or_eq_true, Bool.or_eq_true] at ha
    exact ha.2

section
variable {s : State}

theorem MarksOk.autoInterval (h : MarksOk s) {x : Side} (hx : (s.side x).state = .auto) : MarksOk (s.autoInterval x) := by
  refine h.of_map (f := s.markAfter x (s.referenceDepth x)) (by rw [State.autoInterval_plan])
    (fun m => ⟨State.markAfter_number x s _ m, State.markAfter_fields x s _ m⟩) fun m hm => ?_
  exact State.markAfter_ok hm (by simp) (by rw [State.autoInterval_side]; exact hx) (State.autoInterval_other x s)

theorem MarksOk.touch (h : MarksOk s) {x : Side} (href : (s.side x).state = .referencing) : MarksOk (s.touch x) := by
  have hzero : MarksOk (s.zeroAtTouch x) := by
    unfold State.zeroAtTouch
    split
    · exact h.setChannel _ _
    · exact h
  refine MarksOk.raise (hzero.setSide fun hx => ?_) _
  rw [State.zeroAtTouch_side] at hx
  exact absurd (hx.symm.trans href) (by decide)

theorem MarksOk.drive (h : MarksOk s) (x : Side) (u : Int) : MarksOk (s.drive x u) := h.setSide id

theorem MarksOk.sideInterval (h : MarksOk s) (x : Side) : MarksOk (s.sideInterval x) := by
  unfold State.sideInterval
  cases hstate : (s.side x).state with
  | idle | frozen => exact h
  | manual =>
    dsimp only
    split
    · exact h.drive _ _
    · exact h
  | referencing =>
    dsimp only [State.referencingInterval]
    split
    · exact h.touch hstate
    · exact h.failReferencing hstate
    · exact h.drive _ _
  | auto => exact h.autoInterval hstate

theorem MarksOk.nextSidePeriod (h : MarksOk s) (x : Side) : MarksOk (s.nextSidePeriod x) := by
  cases x <;> exact h.keep rfl rfl fun _ => rfl

theorem MarksOk.expireLease (h : MarksOk s) (x : Side) : MarksOk (s.expireLease x) := by
  unfold State.expireLease
  dsimp only
  split
  · exact h.setSide id
  · exact h

/-- Governance is re-evaluated on a plan whose marks stand. -/
theorem MarksOk.reevaluate (h : MarksOk s) (amended : Option Nat) : MarksOk (s.reevaluate amended) :=
  h.of_eq (by simp) (by simp) (by simp) fun x hx => (State.reevaluate_keepsRun s x amended).1.trans hx

theorem MarksOk.setZones (h : MarksOk s) (zs : List Zone) : MarksOk { s with plan.zones := zs } :=
  h.of_eq rfl rfl id fun _ => id

theorem MarksOk.storeZone (h : MarksOk s) (z : Zone) (zs : List Zone) : MarksOk (s.storeZone z zs) := by
  unfold State.storeZone
  dsimp only
  split
  · exact (h.setZones _).raise _
  · exact h.setZones _

theorem MarksOk.limitDemands (h : MarksOk s) : MarksOk s.limitDemands :=
  h.of_eq rfl rfl id fun x hx => (State.limitDemands_keepsRun s x).1.trans hx

theorem MarksOk.storeBank (h : MarksOk s) (n : BankName) (b : Bank) : MarksOk (s.storeBank n b) := by
  have hset : MarksOk (s.setBank n b) := h.keep (by simp) (by simp) fun x => by cases x <;> simp [State.side]
  unfold State.storeBank
  split
  · exact hset.limitDemands
  · exact hset

theorem Effect.keepsMarks {t : State} {i : Instr} (h : Effect s i t) (hs : MarksOk s) : MarksOk t := by
  have hclass := h.keepsDrumClass
  cases h with
  | zoneStored | zoneAmended => exact (hs.storeZone _ _).reevaluate _
  | zoneSuspended | zoneReinstated | zoneRetired =>
    refine MarksOk.reevaluate ?_ _
    exact hs.setZones _
  | planCleared =>
    refine MarksOk.reevaluate ?_ _
    exact (hs.sublist (List.nil_sublist _)).setZones _
  | markStored hf hn =>
    obtain ⟨h1, h2, hfree, -⟩ := lowestFree_some hn
    exact hs.insert h1 h2 hf hfree
  | @markAmended _ f m hm hf =>
    obtain ⟨-, -, hall⟩ := marksOk_iff.mp hs
    obtain ⟨h1, h2, -⟩ := hall m hm
    have hdropped : MarksOk { s with plan.marks := dropMark m.number s.plan.marks } := hs.sublist List.filter_sublist
    exact hdropped.insert h1 h2 hf (by simp [dropMark])
  | markRetired => exact hs.sublist List.filter_sublist
  | stationFixed => exact hs.stationChanged rfl
  | counted => exact hs.stationChanged (StationCounter.count_geometry _ _).2
  | channelConfigured => exact ((hs.setChannel _ _).handOver _ _).tell _ _
  | channelCleared =>
    refine MarksOk.tell (MarksOk.setChannel ?_ _ _) _ _
    unfold State.dropRole
    split
    · exact hs.keep rfl rfl fun _ => rfl
    · exact hs
  | roleAssigned =>
    refine MarksOk.tell ?_ _ _
    exact hs.keep rfl rfl fun _ => rfl
  | roleTransferred => exact hs.transfer _ _
  | zeroSet => exact hs.setChannel _ _
  | readingTaken => exact hs.takeReading _
  | freshnessExpired => exact hs.expireFreshness _
  | engaged => exact hs.enterAuto _
  | disengaged => exact hs.disengageSide _
  | jogged => exact (hs.toManual _).setSide id
  | @referenceBegun _ x _ hstate => exact hs.setSide fun hx => by simp [hx] at hstate
  | modeSet | trimSet => exact hs.setSide id
  | sideIntervalEnded | dwellEnded => exact (hs.sideInterval _).nextSidePeriod _
  | leaseExpired => exact hs.expireLease _
  | bankStored => exact hs.storeBank _ _
  | malformedAnswered hu =>
    obtain ⟨hplan, hstation, -, hleft, hright, -⟩ := State.takeFrame_keepsBlocks hu
    exact hs.keep hplan hstation fun x => by cases x <;> assumption
  | _ => exact hs.of_eq (by simp) hclass (by simp) (by simp [State.side])

end

/-! ### The plan after a reset (R30, R197, R198) and O57 -/

theorem resetPlan_ok {s : State} (h : s.plan = resetPlan) : ZonesOk s ∧ MarksOk s ∧ GovernanceOk s := by
  refine ⟨?_, ?_, ?_⟩
  · simp [ZonesOk, h, resetPlan]
  · simp [MarksOk, h, resetPlan]
  · simp [GovernanceOk, h, resetPlan]

theorem warmState_marksOk {s : State} (h : MarksOk s) (ea eb : Bool) : MarksOk (warmState ea eb s) := by
  refine h.of_map (f := Mark.warm) (by simp [State.warmBlocks]) (fun _ => ⟨rfl, rfl⟩) fun m hm => ?_
  obtain ⟨h1, h2, hrange, -⟩ := hm
  refine freshMark_ok h1 h2 ?_
  rwa [State.maxDepth, (warmState_blocks ea eb s).2.1]

theorem warmState_governanceOk (s : State) (ea eb : Bool) : GovernanceOk (warmState ea eb s) := by
  simp [GovernanceOk, State.inForce, State.warmBlocks]

theorem ResetEffect.keepsPlan {s t : State} {i : Instr} (h : ResetEffect s i t) (hzones : ZonesOk s) (hmarks : MarksOk s)
    (hgov : GovernanceOk s) : ZonesOk t ∧ MarksOk t ∧ GovernanceOk t := by
  cases h with
  | asserted | restarted => exact ⟨hzones, hmarks, hgov⟩
  | coldReleased => exact resetPlan_ok (by simp)
  | @warmReleased ea eb =>
    refine ⟨hzones.of_eq ?_ ?_, warmState_marksOk hmarks ea eb, warmState_governanceOk s ea eb⟩ <;>
      simp [State.warmBlocks]

/-- The laws of the plan and the station read the plan, the station and the states of the sides. -/
theorem planLaws_of_eq {s t : State} (h : ZonesOk s ∧ MarksOk s ∧ GovernanceOk s ∧ StationOk s) (hplan : t.plan = s.plan)
    (hstation : t.station = s.station) (hstate : ∀ x, (t.side x).state = (s.side x).state) :
    ZonesOk t ∧ MarksOk t ∧ GovernanceOk t ∧ StationOk t := by
  obtain ⟨hzones, hmarks, hgov, hst⟩ := h
  refine ⟨hzones.of_eq (by rw [hplan]) (by rw [hstation]), ?_, ?_, hst.of_eq hstation⟩
  · exact hmarks.of_eq (by rw [hplan]) (by rw [hstation]) (by rw [hstation]; exact id) fun x hx => (hstate x).trans hx
  · exact hgov.of_eq (by rw [hplan]) (by rw [hplan]) (by rw [hstation]) (by rw [hstation])

theorem planAndStation_standThrough :
    StandsThrough (fun s => ZonesOk s ∧ MarksOk s ∧ GovernanceOk s ∧ StationOk s) where
  pending _ _ h := h
  ms s _ h := planLaws_of_eq h rfl rfl fun x => by rw [State.lessMs_side]; rfl
  take s u f _ h htake := by
    obtain ⟨hplan, hstation, -, hleft, hright, -⟩ := State.takeFrame_keepsBlocks htake
    exact planLaws_of_eq h hplan hstation fun x => by cases x <;> simp only [State.side, hleft, hright]
  effect s t i _ := by
    rintro ⟨hzones, hmarks, hgov, hst⟩ heffect
    exact ⟨heffect.keepsZones hzones, heffect.keepsMarks hmarks, heffect.keepsGovernance hgov, heffect.keepsStation hst⟩
  respond _ _ _ _ _ _ h := h
  reset s t i := by
    rintro ⟨hzones, hmarks, hgov, hst⟩ hreset
    obtain ⟨hzones', hmarks', hgov'⟩ := hreset.keepsPlan hzones hmarks hgov
    exact ⟨hzones', hmarks', hgov', hreset.keepsStation hst⟩

/-- Settles O57: the four laws stand through every effect, a millisecond and the resets. -/
theorem stepsKeepThePlanInOrder : Obligations.StepsKeepThePlanInOrder :=
  fun _ _ hinv hstep =>
    planAndStation_standThrough.step ⟨hinv.zones, hinv.marks, hinv.governance, hinv.station⟩ hstep

end Sys2Proof.Machine
end

section
/-! The Channel Monitor's law (R73 to R76, R84) under every effect and the resets: one lemma for each way a channel
record or a role is written. -/
namespace Sys2Proof.Machine

/-! ### One channel record -/

/-- What holds of a record configured as `g` (R73, R74, R75, R76). -/
structure Channel.RunsAs (g : ChannelConfig) (c : Channel) : Prop where
  addressLow : 1 ≤ g.address
  addressHigh : g.address ≤ 63
  timeoutLow : 1 ≤ g.timeout
  timeoutHigh : g.timeout ≤ 40
  zero : c.zero.isSome = true → g.kind.isGrade = true
  value : ∀ v ∈ c.value, g.kind.inRange v = true
  live : c.health = .live → c.value.isSome = true
  absent : c.health = .absent ↔ c.status = none
  timed : c.timer.isSome = true ↔ c.health = .live ∨ c.health = .rejected
  timer : ∀ t ∈ c.timer, t ≤ g.timeout * 50
  engaged : c.engaged = true → g.kind = .load

theorem Channel.ok_iff_of_config {c : Channel} {g : ChannelConfig} (h : c.config = some g) : c.ok ↔ c.RunsAs g := by
  unfold Channel.ok
  rw [h]
  constructor
  · rintro ⟨h1, h2, h3, h4, h5, h6, h7, h8, h9, h10, h11⟩
    exact ⟨h1, h2, h3, h4, h5, h6, h7, h8, h9, h10, h11⟩
  · rintro ⟨h1, h2, h3, h4, h5, h6, h7, h8, h9, h10, h11⟩
    exact ⟨h1, h2, h3, h4, h5, h6, h7, h8, h9, h10, h11⟩

theorem Channel.ok_iff_of_noConfig {c : Channel} (h : c.config = none) : c.ok ↔ c = emptyChannel := by
  unfold Channel.ok
  rw [h]

theorem emptyChannel_ok : emptyChannel.ok := rfl

/-- A channel as its configuration leaves it (R81). -/
theorem configuredChannel_ok {old : Channel} {g : ChannelConfig} {p : List Byte} {n : Fin 8}
    (hg : configOf p = some (n, g)) : (configuredChannel old g).ok := by
  have hranges : 1 ≤ g.address ∧ g.address ≤ 63 ∧ 1 ≤ g.timeout ∧ g.timeout ≤ 40 := by
    unfold configOf at hg
    dsimp only at hg
    split at hg
    · split at hg
      · rename_i hin
        simp only [Bool.and_eq_true, decide_eq_true_eq] at hin
        obtain ⟨rfl, rfl⟩ := Prod.mk.inj (Option.some.inj hg)
        exact ⟨hin.1.1.1, hin.1.1.2, hin.1.2, hin.2⟩
      · cases hg
    · cases hg
  obtain ⟨h1, h2, h3, h4⟩ := hranges
  refine (Channel.ok_iff_of_config (g := g) rfl).mpr ⟨h1, h2, h3, h4, fun hz => ?_, ?_, ?_, ?_, ?_, ?_, ?_⟩
  · simp only [configuredChannel, keptZero] at hz
    split at hz
    · split at hz
      · rename_i hkind
        simp only [Bool.and_eq_true] at hkind
        exact hkind.2
      · cases hz
    · cases hz
  all_goals simp [configuredChannel]

/-- A record that is judged anew by a reading (R75). -/
theorem Channel.ok.afterReading {c : Channel} {g : ChannelConfig} (h : c.ok) (hg : c.config = some g) (r : Reading) :
    (c.afterReading g r).ok := by
  have hc := (Channel.ok_iff_of_config hg).mp h
  by_cases haccept : accepts g.kind r = true
  · have hr : c.afterReading g r = { c with
        status := some r.status, timer := some (g.timeout * Config.freshnessUnitMs), value := some r.value,
        health := .live, engaged := if g.kind = .load then r.status = 0 else c.engaged } := by
      simp only [Channel.afterReading, haccept, ↓reduceIte]
    have hrange : g.kind.inRange r.value = true := by
      simp only [accepts, Bool.and_eq_true] at haccept
      exact haccept.2
    rw [hr]
    refine (Channel.ok_iff_of_config (by exact hg)).mpr { hc with
      value := by simpa using hrange
      live := by simp
      absent := by simp
      timed := by simp
      timer := by simp [Config.freshnessUnitMs]
      engaged := ?_ }
    dsimp only
    split
    · exact fun _ => ‹_›
    · exact hc.engaged
  · have hr : c.afterReading g r = { c with
        status := some r.status, timer := some (g.timeout * Config.freshnessUnitMs), health := .rejected } := by
      simp only [Channel.afterReading, haccept, Bool.false_eq_true, ↓reduceIte]
    rw [hr]
    exact (Channel.ok_iff_of_config (by exact hg)).mpr { hc with
      live := by simp
      absent := by simp
      timed := by simp
      timer := by simp [Config.freshnessUnitMs] }

/-- A record whose freshness timer has run out (R76): it has had a reading, for only then does the timer run. -/
theorem Channel.ok.stale {c : Channel} (h : c.ok) (htimer : c.timer.isSome = true) :
    ({ c with health := .stale, timer := none } : Channel).ok := by
  cases hg : c.config with
  | none =>
    rw [(Channel.ok_iff_of_noConfig hg).mp h] at htimer
    exact Bool.noConfusion htimer
  | some g =>
    have hc := (Channel.ok_iff_of_config hg).mp h
    refine (Channel.ok_iff_of_config rfl).mpr { hc with
      live := by simp
      absent := ?_
      timed := by simp
      timer := by simp }
    have hstatus : c.status ≠ none := fun hs => by
      have := hc.absent.mpr hs
      have := hc.timed.mp htimer
      simp_all
    simp [hstatus]

/-- A zero reference is written on a grade channel (R78, R87, R91, R92). -/
theorem Channel.ok.setZero {c : Channel} {g : ChannelConfig} (h : c.ok) (hg : c.config = some g) (hgrade : g.kind.isGrade = true)
    (z : Option Int) : ({ c with zero := z } : Channel).ok :=
  (Channel.ok_iff_of_config (by exact hg)).mpr { (Channel.ok_iff_of_config hg).mp h with zero := fun _ => hgrade }

theorem Channel.ok.warm {c : Channel} (h : c.ok) : c.warm.ok := by
  cases hg : c.config with
  | none =>
    rw [(Channel.ok_iff_of_noConfig hg).mp h]
    exact emptyChannel_ok
  | some g =>
    have hc := (Channel.ok_iff_of_config hg).mp h
    exact (Channel.ok_iff_of_config (by exact hg)).mpr { hc with
      value := by simp [Channel.warm]
      live := by simp [Channel.warm]
      absent := by simp [Channel.warm]
      timed := by simp [Channel.warm]
      timer := by simp [Channel.warm]
      engaged := by simp [Channel.warm] }

theorem Channel.ok.lessMs {c : Channel} (h : c.ok) : ({ c with timer := lessOne c.timer } : Channel).ok := by
  cases hg : c.config with
  | none =>
    rw [(Channel.ok_iff_of_noConfig hg).mp h]
    exact emptyChannel_ok
  | some g =>
    have hc := (Channel.ok_iff_of_config hg).mp h
    refine (Channel.ok_iff_of_config rfl).mpr { hc with
      timed := by simpa [lessOne] using hc.timed
      timer := fun t ht => ?_ }
    obtain ⟨v, hv, rfl⟩ := Option.map_eq_some_iff.mp ht
    exact Nat.le_trans (Nat.sub_le _ _) (hc.timer v hv)

/-! ### The Channel Monitor -/

/-- The Channel Monitor's law with the roles not listed: a channel holds at most one role (R84). -/
theorem channelsOk_iff {s : State} : ChannelsOk s ↔ (∀ n, (s.channel n).ok) ∧ s.addressesDistinct ∧ (∀ r, s.roleOk r) ∧
    ∀ q r n, s.monitor.roles.get q = some n → s.monitor.roles.get r = some n → q = r := by
  unfold ChannelsOk
  constructor
  · rintro ⟨hok, haddr, hrole, hone⟩
    refine ⟨hok, haddr, fun r => hrole r r.mem_allRoles, fun q r n hq hr => ?_⟩
    exact hone q q.mem_allRoles r r.mem_allRoles (by simp [hq]) (hq.trans hr.symm)
  · rintro ⟨hok, haddr, hrole, hone⟩
    refine ⟨hok, haddr, fun r _ => hrole r, fun q _ r _ hq heq => ?_⟩
    obtain ⟨n, hn⟩ := Option.isSome_iff_exists.mp hq
    exact hone q r n hn (heq ▸ hn)

theorem ChannelsOk.of_eq {s t : State} (h : ChannelsOk s) (heq : t.monitor = s.monitor) : ChannelsOk t := by
  simpa only [ChannelsOk, State.channel, State.addressesDistinct, State.roleOk, heq] using h

/-- The role a channel holds is the one role that refers to it. -/
theorem ChannelsOk.roleHeld_iff {s : State} (h : ChannelsOk s) {n : Fin 8} {r : Role} :
    s.roleHeld n = some r ↔ s.monitor.roles.get r = some n := by
  obtain ⟨-, -, -, hone⟩ := channelsOk_iff.mp h
  refine ⟨State.roleHeld_some, fun hr => ?_⟩
  cases hheld : s.roleHeld n with
  | none => exact absurd hr (State.roleHeld_eq_none.mp hheld r)
  | some q => rw [hone q r n (State.roleHeld_some hheld) hr]

/-- The record a role refers to is configured with a kind the role admits. -/
theorem ChannelsOk.role_config {s : State} (h : ChannelsOk s) {r : Role} {n : Fin 8} (hr : s.monitor.roles.get r = some n) :
    ∃ g, (s.channel n).config = some g ∧ r.admits g.kind = true := by
  obtain ⟨-, -, hrole, -⟩ := channelsOk_iff.mp h
  exact hrole r n hr

theorem gradeRole_admits (x : Side) (k : Kind) : (gradeRole x).admits k = k.isGrade := by cases x <;> rfl

/-- A record is rewritten with the configuration it had. -/
theorem ChannelsOk.setChannel_same {s : State} (h : ChannelsOk s) {n : Fin 8} {c : Channel} (hc : c.ok)
    (hconfig : c.config = (s.channel n).config) : ChannelsOk (s.setChannel n c) := by
  have hconfigs : ∀ k, ((s.setChannel n c).channel k).config = (s.channel k).config := fun k => by
    by_cases hk : k = n
    · subst hk
      rw [State.setChannel_channel_same, hconfig]
    · rw [State.setChannel_channel_ne s hk]
  obtain ⟨hok, haddr, hrole, hone⟩ := channelsOk_iff.mp h
  refine channelsOk_iff.mpr ⟨fun k => ?_, ?_, ?_, hone⟩
  · by_cases hk : k = n
    · subst hk
      rwa [State.setChannel_channel_same]
    · rw [State.setChannel_channel_ne s hk]
      exact hok k
  · simpa only [State.addressesDistinct, hconfigs] using haddr
  · simpa only [State.roleOk, hconfigs, State.setChannel_roles] using hrole

theorem State.addressTaken_eq_false {s : State} {n : Fin 8} {a : Nat} : s.addressTaken n a = false ↔
    ∀ k, k ≠ n → ∀ g ∈ (s.channel k).config, g.address ≠ a := by
  simp only [State.addressTaken, List.any_eq_false, List.mem_finRange, forall_const, Bool.and_eq_true, decide_eq_true_eq,
    not_and, Option.mem_def]
  refine forall₂_congr fun k _ => ?_
  cases (s.channel k).config <;> simp

/-- A channel is configured (R81): its role admits the kind, and no other configured channel has the address. -/
theorem ChannelsOk.configure {s : State} (h : ChannelsOk s) {n : Fin 8} {g : ChannelConfig} {c : Channel} (hc : c.ok)
    (hconfig : c.config = some g) (hfit : s.kindUnfit n g.kind = false) (hfree : s.addressTaken n g.address = false) :
    ChannelsOk (s.setChannel n c) := by
  obtain ⟨hok, haddr, hrole, hone⟩ := channelsOk_iff.mp h
  have hother : ∀ k, k ≠ n → (s.setChannel n c).channel k = s.channel k := fun k hk =>
    State.setChannel_channel_ne s hk c
  have hfree := State.addressTaken_eq_false.mp hfree
  refine channelsOk_iff.mpr ⟨fun k => ?_, fun k l a ha b hb hab => ?_, fun r k hk => ?_, hone⟩
  · by_cases hk : k = n
    · subst hk
      rwa [State.setChannel_channel_same]
    · rw [hother k hk]
      exact hok k
  · by_cases hk : k = n <;> by_cases hl : l = n
    · rw [hk, hl]
    · rw [hother l hl] at hb
      rw [hk, State.setChannel_channel_same, hconfig] at ha
      exact absurd (by rw [← hab, Option.some.inj ha]) (hfree l hl b hb)
    · rw [hother k hk] at ha
      rw [hl, State.setChannel_channel_same, hconfig] at hb
      exact absurd (by rw [hab, Option.some.inj hb]) (hfree k hk a ha)
    · rw [hother k hk] at ha
      rw [hother l hl] at hb
      exact haddr k l a ha b hb hab
  · rw [State.setChannel_roles] at hk
    by_cases hkn : k = n
    · subst hkn
      rw [State.kindUnfit, h.roleHeld_iff.mpr hk] at hfit
      exact ⟨g, by rw [State.setChannel_channel_same, hconfig]; rfl, by simpa using hfit⟩
    · rw [hother k hkn]
      exact hrole r k hk

/-- A role is assigned to a channel that may take it, or to none (R84, R85). -/
theorem ChannelsOk.setRole {s : State} (h : ChannelsOk s) {q : Role} {v : Option (Fin 8)} (hfit : s.unfitFor q v = false) :
    ChannelsOk (s.setRole q v) := by
  obtain ⟨hok, haddr, hrole, hone⟩ := channelsOk_iff.mp h
  have hsame : (s.setRole q v).monitor.roles.get q = v := Roles.get_set_same _ _ _
  have hother : ∀ r, r ≠ q → (s.setRole q v).monitor.roles.get r = s.monitor.roles.get r := fun r hr =>
    Roles.get_set_ne _ hr _
  -- The channel the role takes admits it and holds no other role.
  have htaken : ∀ n, v = some n → (∃ g ∈ (s.channel n).config, q.admits g.kind = true) ∧
      ∀ r, s.monitor.roles.get r = some n → r = q := by
    rintro n rfl
    unfold State.unfitFor at hfit
    dsimp only at hfit
    split at hfit
    · cases hfit
    · rename_i g hg
      simp only [Bool.or_eq_false_iff, Bool.not_eq_false'] at hfit
      refine ⟨⟨g, hg, hfit.1⟩, fun r hr => ?_⟩
      have := hfit.2
      rw [h.roleHeld_iff.mpr hr] at this
      simpa using this
  refine channelsOk_iff.mpr ⟨hok, haddr, fun r n hn => ?_, fun p r n hp hr => ?_⟩
  · by_cases hrq : r = q
    · subst hrq
      exact (htaken n (hsame ▸ hn)).1
    · rw [hother r hrq] at hn
      exact hrole r n hn
  · by_cases hpq : p = q <;> by_cases hrq : r = q
    · rw [hpq, hrq]
    · rw [hpq, hsame] at hp
      rw [hother r hrq] at hr
      exact absurd ((htaken n hp).2 r hr) hrq
    · rw [hrq, hsame] at hr
      rw [hother p hpq] at hp
      exact absurd ((htaken n hr).2 p hp) hpq
    · rw [hother p hpq] at hp
      rw [hother r hrq] at hr
      exact hone p r n hp hr

/-- A channel that no role refers to is emptied (R82). -/
theorem ChannelsOk.empty {s : State} (h : ChannelsOk s) {n : Fin 8} (hfree : s.roleHeld n = none) :
    ChannelsOk (s.setChannel n emptyChannel) := by
  obtain ⟨hok, haddr, hrole, hone⟩ := channelsOk_iff.mp h
  have hsame : ((s.setChannel n emptyChannel).channel n).config = none := by rw [State.setChannel_channel_same]; rfl
  have hother : ∀ k, k ≠ n → (s.setChannel n emptyChannel).channel k = s.channel k := fun k hk =>
    State.setChannel_channel_ne s hk _
  refine channelsOk_iff.mpr ⟨fun k => ?_, fun k l a ha b hb hab => ?_, fun r k hk => ?_, hone⟩
  · by_cases hk : k = n
    · subst hk
      rw [State.setChannel_channel_same]
      exact emptyChannel_ok
    · rw [hother k hk]
      exact hok k
  · have hk : k ≠ n := fun hk => by rw [hk, Option.mem_def, hsame] at ha; cases ha
    have hl : l ≠ n := fun hl => by rw [hl, Option.mem_def, hsame] at hb; cases hb
    rw [hother k hk] at ha
    rw [hother l hl] at hb
    exact haddr k l a ha b hb hab
  · have hkn : k ≠ n := fun hkn => State.roleHeld_eq_none.mp hfree r (hkn ▸ hk)
    rw [hother k hkn]
    exact hrole r k hk

theorem ChannelsOk.dropRole {s : State} (h : ChannelsOk s) (n : Fin 8) :
    ChannelsOk (s.dropRole n) ∧ (s.dropRole n).roleHeld n = none := by
  unfold State.dropRole
  cases hheld : s.roleHeld n with
  | none => exact ⟨h, hheld⟩
  | some r =>
    refine ⟨h.setRole rfl, State.roleHeld_eq_none.mpr fun q hq => ?_⟩
    obtain ⟨-, -, -, hone⟩ := channelsOk_iff.mp h
    by_cases hqr : q = r
    · subst hqr
      simp [State.setRole] at hq
    · have hq : (s.monitor.roles.set r none).get q = some n := hq
      rw [Roles.get_set_ne _ hqr] at hq
      exact hqr (hone q r n hq (State.roleHeld_some hheld))

/-- The zero reference of a grade channel is written. -/
theorem ChannelsOk.setZero {s : State} (h : ChannelsOk s) {n : Fin 8} {g : ChannelConfig}
    (hg : (s.channel n).config = some g) (hgrade : g.kind.isGrade = true) (z : Option Int) :
    ChannelsOk (s.setChannel n { s.channel n with zero := z }) := by
  obtain ⟨hok, -⟩ := channelsOk_iff.mp h
  exact h.setChannel_same ((hok n).setZero hg hgrade z) rfl

theorem ChannelsOk.setZero_role {s : State} (h : ChannelsOk s) {n : Fin 8} {x : Side}
    (hr : s.monitor.roles.get (gradeRole x) = some n) (z : Option Int) :
    ChannelsOk (s.setChannel n { s.channel n with zero := z }) := by
  obtain ⟨g, hg, hadmits⟩ := h.role_config hr
  exact h.setZero hg (gradeRole_admits x g.kind ▸ hadmits) z

theorem ChannelsOk.handOver {s : State} (h : ChannelsOk s) (n : Fin 8) (before : Channel) :
    ChannelsOk (s.handOver n before) := h.of_eq (by simp)

theorem Channel.afterReading_config (g : ChannelConfig) (r : Reading) (c : Channel) :
    (c.afterReading g r).config = c.config := by
  unfold Channel.afterReading
  dsimp only
  split <;> rfl

/-- A reading changes nothing, or it is the reading of a configured channel, judged and handed on (R75, R77). -/
theorem State.takeReading_cases (r : Reading) (s : State) : s.takeReading r = s ∨
    ∃ n g, (s.channel n).config = some g ∧
      s.takeReading r = (s.setChannel n ((s.channel n).afterReading g r)).handOver n (s.channel n) := by
  unfold State.takeReading
  cases s.channelAt r.address with
  | none => exact .inl rfl
  | some n =>
    dsimp only
    cases hg : (s.channel n).config with
    | none => exact .inl rfl
    | some g => exact .inr ⟨n, g, hg, rfl⟩

theorem ChannelsOk.takeReading {s : State} (h : ChannelsOk s) (r : Reading) : ChannelsOk (s.takeReading r) := by
  obtain ⟨hok, -⟩ := channelsOk_iff.mp h
  obtain heq | ⟨n, g, hg, heq⟩ := State.takeReading_cases r s <;> rw [heq]
  · exact h
  · exact (h.setChannel_same ((hok n).afterReading hg r) (Channel.afterReading_config g r _)).handOver _ _

theorem ChannelsOk.expireFreshness {s : State} (h : ChannelsOk s) (n : Fin 8) : ChannelsOk (s.expireFreshness n) := by
  obtain ⟨hok, -⟩ := channelsOk_iff.mp h
  unfold State.expireFreshness
  dsimp only
  split
  · exact (h.setChannel_same ((hok n).stale ‹_›) rfl).handOver _ _
  · exact h

/-- What the channel a role is moved to is (R85 test 2). -/
theorem State.config_of_unfitFor {s : State} {q : Role} {n : Fin 8} (hfit : s.unfitFor q (some n) = false) :
    ∃ g, (s.channel n).config = some g ∧ q.admits g.kind = true := by
  unfold State.unfitFor at hfit
  dsimp only at hfit
  split at hfit
  · cases hfit
  · simp only [Bool.or_eq_false_iff, Bool.not_eq_false'] at hfit
    exact ⟨_, ‹_›, hfit.1⟩

/-- The bumpless transfer writes a zero reference and a role (R87). -/
theorem ChannelsOk.moveGrade {s : State} (h : ChannelsOk s) {x : Side} {n : Fin 8}
    (hfit : s.unfitFor (gradeRole x) (some n) = false) : ChannelsOk ((s.rebase x n).setRole (gradeRole x) (some n)) := by
  obtain ⟨g, hg, hadmits⟩ := State.config_of_unfitFor hfit
  have hrebased : ChannelsOk (s.rebase x n) := h.setZero hg (gradeRole_admits x g.kind ▸ hadmits) _
  refine hrebased.setRole ?_
  have hconfig : ((s.rebase x n).channel n).config = (s.channel n).config := by
    rw [State.rebase, State.setChannel_channel_same]
  have hheld : (s.rebase x n).roleHeld n = s.roleHeld n := rfl
  unfold State.unfitFor at hfit ⊢
  simpa only [hconfig, hheld] using hfit

theorem ChannelsOk.transfer {s : State} (h : ChannelsOk s) {q : Role} {n : Fin 8} (hfit : s.unfitFor q (some n) = false) :
    ChannelsOk (s.transfer q n) := by
  cases q with
  | leftGrade => exact (h.moveGrade (x := .left) hfit).of_eq (by simp [State.transfer, State.transferGrade, gradeRole])
  | rightGrade => exact (h.moveGrade (x := .right) hfit).of_eq (by simp [State.transfer, State.transferGrade, gradeRole])
  | crossSlope =>
    refine (h.setRole hfit).of_eq ?_
    simp only [State.transfer, State.transferSlope]
    split <;> split <;> simp
  | drumLoad | beltPressure => exact h

/-! ### What leaves the Channel Monitor alone -/

section
variable (s : State)

@[simp] theorem State.storeZone_monitor (z : Zone) (zs : List Zone) : (s.storeZone z zs).monitor = s.monitor := by
  unfold State.storeZone
  dsimp only
  split <;> rfl

@[simp] theorem State.markSuspended_monitor (n : Nat) (v : Bool) : (s.markSuspended n v).monitor = s.monitor := rfl

@[simp] theorem State.storeBank_monitor (n : BankName) (b : Bank) : (s.storeBank n b).monitor = s.monitor := by
  unfold State.storeBank
  split <;> simp

@[simp] theorem State.fixAt_monitor (st : Nat) : (s.fixAt st).monitor = s.monitor := by simp [State.fixAt]

@[simp] theorem State.enterAuto_monitor (x : Side) : (s.enterAuto x).monitor = s.monitor := by simp [State.enterAuto]

@[simp] theorem State.disengageSide_monitor (x : Side) : (s.disengageSide x).monitor = s.monitor := by
  unfold State.disengageSide
  dsimp only
  split <;> simp

@[simp] theorem State.toManual_monitor (x : Side) : (s.toManual x).monitor = s.monitor := by
  unfold State.toManual
  dsimp only
  split <;> simp

@[simp] theorem State.startLease_monitor (x : Side) (d : Direction) : (s.startLease x d).monitor = s.monitor := by
  simp [State.startLease]

@[simp] theorem State.startReferencing_monitor (x : Side) : (s.startReferencing x).monitor = s.monitor := by
  simp [State.startReferencing]

@[simp] theorem State.drive_monitor (x : Side) (u : Int) : (s.drive x u).monitor = s.monitor := by simp [State.drive]

@[simp] theorem State.autoInterval_monitor (x : Side) : (s.autoInterval x).monitor = s.monitor := by
  rw [State.autoInterval_eq]
  simp

@[simp] theorem State.expireLease_monitor (x : Side) : (s.expireLease x).monitor = s.monitor := by
  unfold State.expireLease
  dsimp only
  split <;> simp

end

theorem ChannelsOk.tell {s : State} (h : ChannelsOk s) (n : Notice) (b : Bool) : ChannelsOk (s.tellCause n b) :=
  h.of_eq (by simp)

theorem ChannelsOk.nextSidePeriod {s : State} (h : ChannelsOk s) (x : Side) : ChannelsOk (s.nextSidePeriod x) :=
  h.of_eq (by simp)

theorem ChannelsOk.touch {s : State} (h : ChannelsOk s) (x : Side) : ChannelsOk (s.touch x) := by
  have hzero : ChannelsOk (s.zeroAtTouch x) := by
    unfold State.zeroAtTouch
    split
    · exact h.setZero_role ‹_› _
    · exact h
  exact hzero.of_eq (by simp [State.touch])

theorem ChannelsOk.sideInterval {s : State} (h : ChannelsOk s) (x : Side) : ChannelsOk (s.sideInterval x) := by
  unfold State.sideInterval
  cases (s.side x).state with
  | idle | frozen => exact h
  | manual =>
    dsimp only
    split
    · exact h.of_eq (by simp)
    · exact h
  | referencing =>
    dsimp only [State.referencingInterval]
    split
    · exact h.touch x
    · exact h.of_eq (by simp)
    · exact h.of_eq (by simp)
  | auto => exact h.of_eq (by simp)

theorem Effect.keepsChannels {s t : State} {i : Instr} (h : Effect s i t) (hs : ChannelsOk s) : ChannelsOk t := by
  cases h with
  | channelConfigured hg hidle hfit hfree =>
    exact ((hs.configure (configuredChannel_ok hg) rfl hfit hfree).handOver _ _).tell _ _
  | channelCleared =>
    obtain ⟨hdropped, hfree⟩ := hs.dropRole _
    exact (hdropped.empty hfree).tell _ _
  | roleAssigned hfit => exact (hs.setRole hfit).tell _ _
  | roleTransferred hfit => exact hs.transfer hfit
  | zeroSet _ hrole => exact hs.setZero_role hrole _
  | readingTaken => exact hs.takeReading _
  | freshnessExpired => exact hs.expireFreshness _
  | sideIntervalEnded | dwellEnded => exact (hs.sideInterval _).nextSidePeriod _
  | malformedAnswered hu =>
    obtain ⟨-, -, hmonitor, -⟩ := State.takeFrame_keepsBlocks hu
    exact hs.of_eq hmonitor
  | _ => exact hs.of_eq (by simp)

theorem resetMonitor_ok {s : State} (h : s.monitor = resetMonitor) : ChannelsOk s := by
  have hchannel : ∀ n, s.channel n = emptyChannel := fun n => by simp [State.channel, h, resetMonitor]
  have hroles : ∀ r, s.monitor.roles.get r = none := fun r => by rw [h]; cases r <;> rfl
  refine channelsOk_iff.mpr ⟨fun n => ?_, fun m n a ha => ?_, fun r n hn => ?_, fun q r n hq => ?_⟩
  · rw [hchannel]
    exact emptyChannel_ok
  · rw [hchannel] at ha
    cases ha
  · rw [hroles] at hn
    cases hn
  · rw [hroles] at hq
    cases hq

theorem ResetEffect.keepsChannels {s t : State} {i : Instr} (h : ResetEffect s i t) (hs : ChannelsOk s) : ChannelsOk t := by
  cases h with
  | asserted | restarted => exact hs
  | coldReleased => exact resetMonitor_ok (by simp)
  | @warmReleased ea eb =>
    obtain ⟨hok, haddr, hrole, hone⟩ := channelsOk_iff.mp hs
    have hchannel : ∀ n, (warmState ea eb s).channel n = (s.channel n).warm := fun n => by
      simp [State.channel, State.warmBlocks]
    have hroles : (warmState ea eb s).monitor.roles = s.monitor.roles := by simp [State.warmBlocks]
    have hconfig : ∀ c : Channel, c.warm.config = c.config := fun _ => rfl
    refine channelsOk_iff.mpr ⟨fun n => ?_, ?_, ?_, ?_⟩
    · rw [hchannel]
      exact (hok n).warm
    · simpa only [State.addressesDistinct, hchannel, hconfig] using haddr
    · simpa only [State.roleOk, hchannel, hconfig, hroles] using hrole
    · simpa only [hroles] using hone

end Sys2Proof.Machine
end

section
/-! The laws of one side that read nothing but its own loop, the active bank and the maximum cut depth: its state, its
demand and trim, and the ranges of its plan context (R48, R64, R96, R108, R110, R115, R130). -/
namespace Sys2Proof.Machine

/-! ### The law of one loop -/

/-- The ranges of a plan context (R48, R64). -/
structure PlanContext.InRange (top : Nat) (c : PlanContext) : Prop where
  entryDepth : between 0 5000 c.entryDepth
  entryStation : c.entryStation ≤ 9999999
  holdDepth : between 0 5000 c.holdDepth
  planDepth : between 0 5000 c.planDepth
  depthTarget : between 0 top c.depthTarget
  slopeTarget : between (-1500) 1500 c.slopeTarget
  heldSlope : between (-1500) 1500 c.heldSlope
  override : ∀ d ∈ c.override, between 0 top d

theorem State.contextOk_iff {s : State} {x : Side} : s.contextOk x ↔ (s.side x).context.InRange s.maxDepth :=
  ⟨fun ⟨h1, h2, h3, h4, h5, h6, h7, h8⟩ => ⟨h1, h2, h3, h4, h5, h6, h7, h8⟩,
    fun ⟨h1, h2, h3, h4, h5, h6, h7, h8⟩ => ⟨h1, h2, h3, h4, h5, h6, h7, h8⟩⟩

/-- What holds of a loop under a bank and a maximum cut depth. -/
structure SideLoop.Lawful (b : Bank) (top : Nat) (d : SideLoop) : Prop where
  referencing : d.referencing.isSome = true ↔ d.state = .referencing
  lease : d.lease.isSome = true → d.state = .manual
  settle : d.settle = .abandoned ↔ d.state ≠ .auto
  override : d.context.override.isSome = true → d.state = .auto ∧ d.mode = .slope
  offer : d.context.offer.isSome = true → d.state = .auto
  standing : d.state = .idle ∨ d.state = .frozen → d.demand = 0
  released : d.state = .manual → d.lease = none → d.demand = 0
  raised : -(b.raiseMax : Int) ≤ d.demand
  lowered : d.demand ≤ b.lowerMax
  trim : -200 ≤ d.trim ∧ d.trim ≤ 200
  remaining : ∀ l ∈ d.lease, l.remaining ≤ 250
  context : d.context.InRange top

/-- Both loops keep their law under the active bank. -/
def State.SidesLawful (s : State) : Prop := ∀ x, (s.side x).Lawful s.activeBank s.maxDepth

theorem State.activeBank_congr {s t : State} (h : t.banks = s.banks) : t.activeBank = s.activeBank := by
  simp only [State.activeBank, State.bank, h]

theorem State.maxDepth_congr {s t : State} (h : t.station.drumClass = s.station.drumClass) : t.maxDepth = s.maxDepth := by
  simp only [State.maxDepth, h]

theorem Side.eq_or_eq_other (x y : Side) : y = x ∨ y = otherSide x := by
  cases x <;> cases y <;> simp [otherSide]

/-- One loop is rewritten; the other loop, the banks and the drum class stand. -/
theorem State.SidesLawful.write {s t : State} (h : s.SidesLawful) (x : Side)
    (hx : (t.side x).Lawful s.activeBank s.maxDepth) (hother : t.side (otherSide x) = s.side (otherSide x))
    (hbanks : t.banks = s.banks) (hclass : t.station.drumClass = s.station.drumClass) : t.SidesLawful := by
  intro y
  rw [State.activeBank_congr hbanks, State.maxDepth_congr hclass]
  obtain rfl | rfl := Side.eq_or_eq_other x y
  · exact hx
  · rw [hother]
    exact h _

theorem State.SidesLawful.of_eq {s t : State} (h : s.SidesLawful) (hside : ∀ x, t.side x = s.side x)
    (hbanks : t.banks = s.banks) (hclass : t.station.drumClass = s.station.drumClass) : t.SidesLawful :=
  h.write .left (hside _ ▸ h .left) (hside _) hbanks hclass

theorem State.SidesLawful.setSide {s : State} (h : s.SidesLawful) {x : Side} {v : SideLoop}
    (hv : v.Lawful s.activeBank s.maxDepth) : (s.setSide x v).SidesLawful :=
  h.write x (by rwa [State.setSide_side_same]) (by simp) (by simp) (by simp)

theorem State.SidesLawful.tell {s : State} (h : s.SidesLawful) (n : Notice) (b : Bool) : (s.tellCause n b).SidesLawful :=
  h.of_eq (by simp) (by simp) (by simp)

theorem State.SidesLawful.raise {s : State} (h : s.SidesLawful) (n : Notice) : (s.raiseNotice n).SidesLawful :=
  h.of_eq (by simp) (by simp) (by simp)

/-! ### A loop that is rewritten -/

section
variable {b : Bank} {top : Nat} {d : SideLoop}

/-- A new plan context that keeps the override and the offer. -/
theorem SideLoop.Lawful.withContext (h : d.Lawful b top) {c : PlanContext} (hc : c.InRange top)
    (hoverride : c.override = d.context.override) (hoffer : c.offer = d.context.offer) :
    ({ d with context := c } : SideLoop).Lawful b top :=
  { h with
    override := by simpa only [hoverride] using h.override
    offer := by simpa only [hoffer] using h.offer
    context := hc }

theorem Bank.limit_within (b : Bank) (u : Int) : -(b.raiseMax : Int) ≤ b.limit u ∧ b.limit u ≤ b.lowerMax :=
  bringWithin_within u (by omega)

theorem Bank.limit_zero (b : Bank) : b.limit 0 = 0 := by
  unfold Bank.limit bringWithin
  split
  · omega
  · split <;> omega

/-- The demand is brought within another bank's limits (R116). -/
theorem SideLoop.Lawful.limitTo (h : d.Lawful b top) (b' : Bank) : (d.limitTo b').Lawful b' top := by
  obtain ⟨hraise, hlower⟩ := b'.limit_within d.demand
  refine { h with standing := fun hx => ?_, released := fun hm hl => ?_, raised := hraise, lowered := hlower }
  · rw [SideLoop.limitTo, h.standing hx, Bank.limit_zero]
  · rw [SideLoop.limitTo, h.released hm hl, Bank.limit_zero]

theorem PlanContext.InRange.cleared {c : PlanContext} (h : c.InRange top) :
    ({ c with override := none, offer := none } : PlanContext).InRange top :=
  { h with override := by simp }

/-- A loop leaves AUTO for IDLE or FROZEN (R101). -/
theorem SideLoop.Lawful.leave (h : d.Lawful b top) (hauto : d.state = .auto) {dest : SideState}
    (hdest : dest = .idle ∨ dest = .frozen) : ({ d with
      state := dest
      settle := .abandoned
      demand := if dest = .manual then d.demand else 0
      context := { d.context with override := none, offer := none } } : SideLoop).Lawful b top := by
  have href : d.referencing.isSome = false := by simpa [hauto] using h.referencing
  have hlease : d.lease.isSome = false := by simpa [hauto] using h.lease
  have hne : dest ≠ .manual ∧ dest ≠ .auto ∧ dest ≠ .referencing := by
    obtain rfl | rfl := hdest <;> decide
  refine { h with
    referencing := by simp [href, hne]
    lease := by simp [hlease]
    settle := by simp [hne]
    override := by simp
    offer := by simp
    standing := by simp [hne]
    released := by simp [hne]
    raised := by simp [hne]
    lowered := by simp [hne]
    context := h.context.cleared }

/-- A loop that is not in AUTO stands down to IDLE or MANUAL with a demand of 0 (R102, R111, R112). -/
theorem SideLoop.Lawful.standDown (h : d.Lawful b top) (hne : d.state ≠ .auto) {dest : SideState}
    (hdest : dest = .idle ∨ dest = .manual) : (d.standDown dest 0).Lawful b top := by
  have hsettle : d.settle = .abandoned := h.settle.mpr hne
  have hoverride : d.context.override.isSome = false := by
    simpa [hne] using h.override
  have hoffer : d.context.offer.isSome = false := by simpa [hne] using h.offer
  have hne' : dest ≠ .auto ∧ dest ≠ .referencing := by obtain rfl | rfl := hdest <;> decide
  refine { h with
    referencing := by simp [SideLoop.standDown, hne']
    lease := by simp [SideLoop.standDown]
    settle := by simp [SideLoop.standDown, hsettle, hne']
    override := by simp [SideLoop.standDown, hoverride]
    offer := by simp [SideLoop.standDown, hoffer]
    standing := fun _ => rfl
    released := fun _ _ => rfl
    raised := by simp [SideLoop.standDown]
    lowered := by simp [SideLoop.standDown]
    remaining := by simp [SideLoop.standDown] }

/-- A loop that fails to reference (R112). -/
theorem SideLoop.Lawful.failReferencing (h : d.Lawful b top) (href : d.state = .referencing) :
    ({ d with state := .idle, demand := 0, referencing := none } : SideLoop).Lawful b top := by
  have hlease : d.lease = none := by simpa [href] using h.lease
  have := h.standDown (by simp [href]) (dest := .idle) (.inl rfl)
  rwa [SideLoop.standDown, ← hlease] at this

/-- A loop in MANUAL with a jog lease (R103): the demand it held is kept. -/
theorem SideLoop.Lawful.jog (h : d.Lawful b top) (dir : Direction) : ({ d with
      state := .manual
      settle := .abandoned
      lease := some ⟨dir, 250⟩
      referencing := none
      context := { d.context with override := none, offer := none } } : SideLoop).Lawful b top :=
  { h with
    referencing := by simp
    lease := by simp
    settle := by simp
    override := by simp
    offer := by simp
    standing := by simp
    released := by simp
    remaining := by simp
    context := h.context.cleared }

/-- A loop enters REFERENCING (R110). -/
theorem SideLoop.Lawful.reference (h : d.Lawful b top) (hne : d.state ≠ .auto) (r : Referencing) :
    ({ d with state := .referencing, lease := none, referencing := some r } : SideLoop).Lawful b top := by
  have hoverride : d.context.override.isSome = false := by simpa [hne] using h.override
  have hoffer : d.context.offer.isSome = false := by simpa [hne] using h.offer
  exact { h with
    referencing := by simp
    lease := by simp
    settle := by simpa using h.settle.mpr hne
    override := by simp [hoverride]
    offer := by simp [hoffer]
    standing := by simp
    released := by simp
    remaining := by simp }

theorem Bank.firstStep_ne_abandoned (b : Bank) (speed : Int) (steps : List (Fin 3)) :
    b.firstStep speed steps ≠ .abandoned := by
  unfold Bank.firstStep
  split <;> simp

theorem Settle.counted_eq_abandoned {b : Bank} {speed : Int} {v : Settle} :
    v.counted b speed = .abandoned ↔ v = .abandoned := by
  cases v with
  | abandoned | tracking => simp [Settle.counted]
  | settling k dwell =>
    dsimp only [Settle.counted]
    split
    · simp [Bank.firstStep_ne_abandoned]
    · simp

/-- A loop enters AUTO (R100). -/
theorem SideLoop.Lawful.engage (h : d.Lawful b top) (hne : d.state ≠ .referencing) {c : PlanContext} (hc : c.InRange top)
    (hoverride : c.override = none) {settle : Settle} (hsettle : settle ≠ .abandoned) :
    ({ d with state := .auto, lease := none, context := c, settle := settle } : SideLoop).Lawful b top := by
  have href : d.referencing.isSome = false := by simpa [hne] using h.referencing
  exact { h with
    referencing := by simp [href]
    lease := by simp
    settle := by simp [hsettle]
    override := by simp [hoverride]
    offer := by simp
    standing := by simp
    released := by simp
    remaining := by simp
    context := hc }

/-- The settle sequence of a loop in AUTO moves on or restarts (R131, R132). -/
theorem SideLoop.Lawful.withSettle (h : d.Lawful b top) {settle : Settle}
    (hsettle : settle = .abandoned ↔ d.settle = .abandoned) : ({ d with settle := settle } : SideLoop).Lawful b top :=
  { h with settle := hsettle.trans h.settle }

/-- A demand is formed while the loop runs (R115). -/
theorem SideLoop.Lawful.withDemand (h : d.Lawful b top) (u : Int)
    (hruns : d.state = .auto ∨ d.state = .referencing ∨ d.lease.isSome = true) :
    ({ d with demand := b.shape d.demand u } : SideLoop).Lawful b top := by
  obtain ⟨hraise, hlower⟩ := Bank.shape_within u h.raised h.lowered
  have hlease := h.lease
  refine { h with standing := fun hx => ?_, released := fun hm hl => ?_, raised := hraise, lowered := hlower }
  · dsimp only at hx
    obtain hr | hr | hr := hruns
    · simp [hr] at hx
    · simp [hr] at hx
    · simp [hlease hr] at hx
  · dsimp only at hm hl
    obtain hr | hr | hr := hruns
    · simp [hr] at hm
    · simp [hr] at hm
    · simp [hl] at hr

/-- A jog lease ends (R104). -/
theorem SideLoop.Lawful.expireLease (h : d.Lawful b top) :
    ({ d with lease := none, demand := 0 } : SideLoop).Lawful b top :=
  { h with
    lease := by simp
    standing := by simp
    released := by simp
    raised := by simp
    lowered := by simp
    remaining := by simp }

theorem SideLoop.Lawful.withTrim (h : d.Lawful b top) (v : Int) :
    ({ d with trim := bringWithin (-200) 200 v } : SideLoop).Lawful b top :=
  { h with trim := bringWithin_within v (by decide) }

/-- The mode is set out of AUTO (R107). -/
theorem SideLoop.Lawful.withMode (h : d.Lawful b top) (hne : d.state ≠ .auto) (m : Mode) :
    ({ d with mode := m } : SideLoop).Lawful b top :=
  { h with override := fun ho => absurd (h.override ho).1 hne }

theorem SideLoop.Lawful.passMs (h : d.Lawful b top) : d.passMs.Lawful b top :=
  { h with
    lease := by simpa [SideLoop.passMs] using h.lease
    released := by simpa [SideLoop.passMs] using h.released
    remaining := fun l hl => by
      obtain ⟨v, hv, rfl⟩ := Option.map_eq_some_iff.mp hl
      exact Nat.le_trans (Nat.sub_le _ _) (h.remaining v hv) }

theorem resetSide_lawful (b : Bank) (top : Nat) : resetSide.Lawful b top := by
  refine ⟨?_, ?_, ?_, ?_, ?_, ?_, ?_, ?_, ?_, ?_, ?_, ⟨?_, ?_, ?_, ?_, ?_, ?_, ?_, ?_⟩⟩ <;>
    simp [resetSide, resetContext, between]

theorem SideLoop.Lawful.warm (h : d.Lawful b top) : d.warm.Lawful b top :=
  { resetSide_lawful b top with
    override := fun ho => Bool.noConfusion ho
    trim := h.trim }

end

/-! ### The ranges of what is measured and planned -/

theorem Config.drumMax_le (k : Fin 4) : Config.drumMax k ≤ 5000 := by
  revert k
  decide

theorem State.maxDepth_le (s : State) : s.maxDepth ≤ 5000 := Config.drumMax_le _

theorem State.clampDepth_between (s : State) (d : Int) : between 0 s.maxDepth (s.clampDepth d) := s.clampDepth_within d

theorem between_mono {lo a b v : Int} (h : between lo a v) (hab : a ≤ b) : between lo b v := ⟨h.1, Int.le_trans h.2 hab⟩

theorem State.clampDepth_plan (s : State) (d : Int) : between 0 5000 (s.clampDepth d) :=
  between_mono (s.clampDepth_between d) (Int.ofNat_le.mpr s.maxDepth_le)

/-- The measured cross slope lies in the range of its kind (R74, R79). -/
theorem ChannelsOk.crossSlope_between {s : State} (h : ChannelsOk s) {v : Int} (hv : s.crossSlope = some v) :
    between (-1500) 1500 v := by
  obtain ⟨c, hc, hquantity⟩ := Option.bind_eq_some_iff.mp hv
  obtain ⟨n, hn, rfl⟩ := Option.map_eq_some_iff.mp hc
  obtain ⟨g, hg, hadmits⟩ := h.role_config hn
  have hvalue : (s.channel n).value = some v := by
    unfold Channel.quantity at hquantity
    split at hquantity
    · exact hquantity
    · cases hquantity
  have hrange := ((Channel.ok_iff_of_config hg).mp ((channelsOk_iff.mp h).1 n)).value v hvalue
  have hkind : g.kind = .slope := by simpa [Role.admits] using hadmits
  simpa [hkind, Kind.inRange, between] using hrange

theorem ChannelsOk.slopeCapture_between {s : State} (h : ChannelsOk s) {x : Side} {top : Nat}
    (hc : (s.side x).context.InRange top) : between (-1500) 1500 (s.slopeCapture x) := by
  unfold State.slopeCapture
  cases hv : s.crossSlope with
  | none => exact hc.heldSlope
  | some v => exact h.crossSlope_between hv

theorem Zone.ok.depth_between {top : Nat} {z : Zone} (h : z.ok top) (x : Side) : between 0 5000 (z.depth x : Int) := by
  obtain ⟨-, -, hrange, -⟩ := h
  simp only [ZoneFields.inRange, Bool.and_eq_true, decide_eq_true_eq] at hrange
  cases x <;> simp only [Zone.depth, between] <;> omega

theorem Zone.ok.slope_between {top : Nat} {z : Zone} (h : z.ok top) {v : Int} (hv : z.fields.slope = some v) :
    between (-1500) 1500 v := by
  obtain ⟨-, -, hrange, -⟩ := h
  simp only [ZoneFields.inRange, Bool.and_eq_true, decide_eq_true_eq, hv] at hrange
  unfold between
  omega

theorem ZonesOk.governingZone {s : State} (h : ZonesOk s) {z : Zone} (hz : s.governingZone = some z) : z.ok s.maxDepth := by
  obtain ⟨n, -, hfind⟩ := Option.bind_eq_some_iff.mp hz
  exact (zonesOk_iff.mp h).2.2 z (State.findZone_number hfind).2

/-- A depth on a ramp lies between the depths at its ends (R51). -/
theorem rampDepth_between {e z p : Int} {r : Nat} (he : between 0 5000 e) (hz : between 0 5000 z) (hp0 : 0 ≤ p) (hpr : p ≤ r) :
    between 0 5000 (rampDepth e z r p) := by
  unfold rampDepth
  split
  · exact hz
  · obtain ⟨he0, he1⟩ := he
    obtain ⟨hz0, hz1⟩ := hz
    have hr : (0 : Int) < r := by omega
    unfold between
    rcases Int.le_total e z with hez | hez
    · -- The ramp rises from `e` by at most `z - e`.
      have h0 : 0 ≤ (z - e) * p := Int.mul_nonneg (by omega) hp0
      have h1 : (z - e) * p ≤ (z - e) * r := Int.mul_le_mul_of_nonneg_left hpr (by omega)
      rw [Int.tdiv_eq_ediv_of_nonneg h0]
      have hlow : 0 ≤ (z - e) * p / r := Int.ediv_nonneg h0 (Int.le_of_lt hr)
      have hhigh : (z - e) * p / r ≤ z - e := Int.ediv_le_of_le_mul hr h1
      omega
    · have h0 : 0 ≤ (e - z) * p := Int.mul_nonneg (by omega) hp0
      have h1 : (e - z) * p ≤ (e - z) * r := Int.mul_le_mul_of_nonneg_left hpr (by omega)
      have hneg : (z - e) * p = -((e - z) * p) := by rw [← Int.neg_mul, Int.neg_sub]
      rw [hneg, Int.neg_tdiv, Int.tdiv_eq_ediv_of_nonneg h0]
      have hlow : 0 ≤ (e - z) * p / r := Int.ediv_nonneg h0 (Int.le_of_lt hr)
      have hhigh : (e - z) * p / r ≤ e - z := Int.ediv_le_of_le_mul hr h1
      omega

theorem ZonesOk.stage1_between {s : State} (h : ZonesOk s) {x : Side} {top : Nat} (hc : (s.side x).context.InRange top) :
    between 0 5000 (s.stage1 x) := by
  unfold State.stage1
  dsimp only
  split
  · exact hc.holdDepth
  · rename_i z _ hz
    obtain ⟨hp0, hpr⟩ := bringWithin_within (lo := 0) (hi := z.fields.ramp)
      (s.station.sense.casesOn ((s.station.station : Int) - (s.side x).context.entryStation)
        (((s.side x).context.entryStation : Int) - s.station.station)) (by omega)
    exact rampDepth_between hc.entryDepth ((h.governingZone hz).depth_between x) hp0 hpr
  · exact hc.planDepth

theorem ZonesOk.slopeTargetOf_between {s : State} (h : ZonesOk s) {x : Side} {top : Nat}
    (hc : (s.side x).context.InRange top) : between (-1500) 1500 (s.slopeTargetOf x) := by
  unfold State.slopeTargetOf
  split
  · rename_i v hv
    obtain ⟨z, hz, hslope⟩ := Option.bind_eq_some_iff.mp hv
    exact (h.governingZone hz).slope_between hslope
  · exact hc.heldSlope

/-! ### The operations -/

/-- The blocks the loops' law leans on: the zones, the Station Counter, the channels and the banks. -/
structure State.Grounded (s : State) : Prop where
  zones : ZonesOk s
  station : StationOk s
  channels : ChannelsOk s

section
variable {s : State}

theorem State.referenceDepth_between {x : Side} (h : (s.side x).context.InRange s.maxDepth) :
    between 0 s.maxDepth (s.referenceDepth x) := by
  unfold State.referenceDepth
  dsimp only
  split
  · exact s.clampDepth_between _
  · exact h.override _ ‹_›
  · exact s.clampDepth_between _

/-- The figures of a target computation lie in their ranges (R49, R64). -/
theorem State.contextAfter_inRange (hg : s.Grounded) {x : Side} (h : (s.side x).context.InRange s.maxDepth) :
    (s.contextAfter x).InRange s.maxDepth := by
  have hslope := hg.zones.slopeTargetOf_between h
  have hdref := State.referenceDepth_between h
  have hcontrol : between 0 s.maxDepth (s.control x).depthTarget ∧ between (-1500) 1500 (s.control x).slopeTarget ∧
      ∀ d ∈ (s.control x).override, between 0 s.maxDepth d := by
    unfold State.control
    dsimp only
    split
    · refine ⟨?_, h.slopeTarget, h.override⟩
      dsimp only
      split
      · exact s.clampDepth_between _
      · exact s.clampDepth_between _
    · exact ⟨s.clampDepth_between _, hslope, by simpa using hdref⟩
    · exact ⟨s.clampDepth_between _, hslope, by simp⟩
    · exact ⟨s.clampDepth_between _, hslope, fun d hd => h.override d (by simp_all)⟩
    · exact ⟨s.clampDepth_between _, hslope, by simp⟩
  obtain ⟨hdepth, hslope', hoverride⟩ := hcontrol
  exact { h with
    planDepth := hg.zones.stage1_between h
    depthTarget := hdepth
    slopeTarget := hslope'
    override := hoverride }

/-- The override a computation leaves is that of a side in SLOPE mode. -/
theorem State.control_override {x : Side} (h : (s.control x).override.isSome = true) :
    (s.side x).mode = .slope ∨ (s.side x).context.override.isSome = true := by
  unfold State.control at h
  dsimp only at h
  split at h <;> simp_all

theorem State.loopAfter_lawful (hg : s.Grounded) {x : Side} (h : (s.side x).Lawful s.activeBank s.maxDepth)
    (hauto : (s.side x).state = .auto) : (s.loopAfter x).Lawful s.activeBank s.maxDepth := by
  have hsettle : (s.side x).settle ≠ .abandoned := fun ha => h.settle.mp ha hauto
  have hdemand := h.withDemand (rawDemand (s.activeBank.gainOf (s.side x).settle)
    (pastDeadBand s.activeBank.deadBand ((s.computeTarget x).loopError x))) (.inl hauto)
  refine { hdemand with settle := ?_, override := fun ho => ⟨hauto, ?_⟩, offer := fun _ => hauto,
                        context := State.contextAfter_inRange hg h.context }
  · dsimp only [State.loopAfter]
    split
    · simp [Bank.firstStep_ne_abandoned, hauto]
    · simp [Settle.counted_eq_abandoned, hsettle, hauto]
  · obtain hmode | ho := State.control_override ho
    · exact hmode
    · exact (h.override ho).2

theorem State.SidesLawful.autoInterval (h : s.SidesLawful) (hg : s.Grounded) {x : Side} (hauto : (s.side x).state = .auto) :
    (s.autoInterval x).SidesLawful :=
  h.write x (by rw [State.autoInterval_side]; exact State.loopAfter_lawful hg (h x) hauto) (State.autoInterval_other x s)
    (by simp) (by simp)

theorem State.SidesLawful.failReferencing (h : s.SidesLawful) {x : Side} (href : (s.side x).state = .referencing) :
    (s.failReferencing x).SidesLawful :=
  h.write x (by rw [State.failReferencing_side]; exact (h x).failReferencing href) (State.failReferencing_other x s)
    (by simp) (by simp)

theorem State.SidesLawful.leaveAuto (h : s.SidesLawful) {x : Side} (hauto : (s.side x).state = .auto) {dest : SideState}
    (hdest : dest = .idle ∨ dest = .frozen) : (s.leaveAuto x dest).SidesLawful :=
  h.write x (by rw [State.leaveAuto_side]; exact (h x).leave hauto hdest) (State.leaveAuto_other x dest s)
    (by simp) (by simp)

theorem State.SidesLawful.freeze (h : s.SidesLawful) {x : Side} (hauto : (s.side x).state = .auto) :
    (s.freeze x).SidesLawful := (h.leaveAuto hauto (.inr rfl)).tell _ _

theorem State.SidesLawful.gradeLost (h : s.SidesLawful) (x : Side) : (s.gradeLost x).SidesLawful := by
  obtain ⟨hauto, heq⟩ | ⟨href, heq⟩ | ⟨-, -, heq⟩ := State.gradeLost_cases x s <;> rw [heq]
  · exact h.freeze hauto
  · exact h.failReferencing href
  · exact h

theorem State.SidesLawful.slopeLost (h : s.SidesLawful) (x : Side) : (s.slopeLost x).SidesLawful := by
  obtain ⟨hauto, -, heq⟩ | ⟨-, heq⟩ := State.slopeLost_cases x s <;> rw [heq]
  · exact h.freeze hauto
  · exact h

theorem State.SidesLawful.loadLost (h : s.SidesLawful) (x : Side) : (s.loadLost x).SidesLawful := by
  obtain ⟨href, heq⟩ | ⟨-, heq⟩ := State.loadLost_cases x s <;> rw [heq]
  · exact h.failReferencing href
  · exact h

theorem State.SidesLawful.handOver (h : s.SidesLawful) (n : Fin 8) (before : Channel) :
    (s.handOver n before).SidesLawful := by
  obtain heq | ⟨r, -, t, heq, ht⟩ := State.handOver_cases n before s <;> rw [heq]
  · exact h
  · refine State.SidesLawful.tell ?_ _ _
    obtain rfl | ⟨-, -, ⟨-, rfl⟩ | ⟨-, rfl⟩ | ⟨-, rfl⟩⟩ | ⟨-, rfl⟩ := ht
    · exact h
    · exact h.gradeLost _
    · exact h.gradeLost _
    · exact (h.slopeLost _).slopeLost _
    · exact (h.loadLost _).loadLost _

theorem State.SidesLawful.setChannel (h : s.SidesLawful) (n : Fin 8) (c : Channel) : (s.setChannel n c).SidesLawful :=
  h.of_eq (fun _ => rfl) rfl rfl

theorem State.SidesLawful.takeReading (h : s.SidesLawful) (r : Reading) : (s.takeReading r).SidesLawful := by
  obtain heq | ⟨n, g, -, heq⟩ := State.takeReading_cases r s <;> rw [heq]
  · exact h
  · exact (h.setChannel _ _).handOver _ _

theorem State.SidesLawful.expireFreshness (h : s.SidesLawful) (n : Fin 8) : (s.expireFreshness n).SidesLawful := by
  unfold State.expireFreshness
  dsimp only
  split
  · exact (h.setChannel _ _).handOver _ _
  · exact h

/-- The settle sequence of a side in AUTO restarts (R131). -/
theorem State.SidesLawful.restartSettle (h : s.SidesLawful) {x : Side} (hauto : (s.side x).state = .auto) :
    (s.restartSettle x).SidesLawful := by
  refine h.setSide ((h x).withSettle ?_)
  have : (s.side x).settle ≠ .abandoned := fun ha => (h x).settle.mp ha hauto
  simp [this, Bank.firstStep_ne_abandoned]

theorem State.SidesLawful.setRole (h : s.SidesLawful) (q : Role) (v : Option (Fin 8)) : (s.setRole q v).SidesLawful :=
  h.of_eq (fun _ => rfl) rfl rfl

theorem State.SidesLawful.restartIf (h : s.SidesLawful) {x : Side} {b : Bool} (hauto : b = true → (s.side x).state = .auto) :
    (if b = true then s.restartSettle x else s).SidesLawful := by
  split
  · exact h.restartSettle (hauto ‹_›)
  · exact h

/-- A grade role that is in use and not fixed is that of a side in AUTO. -/
theorem State.auto_of_roleInUse {x : Side} (huse : s.roleInUse (gradeRole x) = true)
    (hfree : s.roleFixed (gradeRole x) = false) : (s.side x).state = .auto := by
  cases x <;> simp only [gradeRole, State.roleInUse, State.roleFixed, Bool.or_eq_true, decide_eq_true_eq,
    decide_eq_false_iff_not] at huse hfree <;> exact huse.resolve_right hfree

theorem State.SidesLawful.transfer (h : s.SidesLawful) {q : Role} {n : Fin 8} (huse : s.roleInUse q = true)
    (hfree : s.roleFixed q = false) : (s.transfer q n).SidesLawful := by
  have grade : ∀ x, (s.side x).state = .auto → (s.transferGrade x n).SidesLawful := fun x hx =>
    ((State.SidesLawful.setRole (h.setChannel n _) _ _).restartSettle (x := x) hx).tell _ _
  cases q with
  | leftGrade => exact grade .left (State.auto_of_roleInUse huse hfree)
  | rightGrade => exact grade .right (State.auto_of_roleInUse huse hfree)
  | crossSlope =>
    have hleft := (h.setRole .crossSlope (some n)).restartIf (x := .left) (b := s.left.mode = .slope && s.left.state = .auto)
      fun hb => by
        rw [Bool.and_eq_true, decide_eq_true_eq, decide_eq_true_eq] at hb
        exact hb.2
    refine (hleft.restartIf (x := .right) (b := s.right.mode = .slope && s.right.state = .auto) fun hb => ?_).tell _ _
    rw [Bool.and_eq_true, decide_eq_true_eq, decide_eq_true_eq] at hb
    split <;> exact hb.2
  | drumLoad | beltPressure => exact h

end

end Sys2Proof.Machine
end

section
/-! The loops' law under the requests on sides, the intervals and a change of governance; every effect and the resets
keep it. -/
namespace Sys2Proof.Machine

section
variable {s : State}

/-! ### Entering AUTO, standing down, jogging, referencing -/

theorem State.enterAuto_side (x : Side) (s : State) : (s.enterAuto x).side x = { s.side x with
    state := .auto, lease := none, context := s.entryContext x
    settle := s.activeBank.firstStep s.station.speed [0, 1, 2] } := by
  simp [State.enterAuto, State.tellStationInvalid, State.tellPlanGap, State.tellSideFrozen, State.restartSettle]

theorem State.enterAuto_other (x : Side) (s : State) : (s.enterAuto x).side (otherSide x) = s.side (otherSide x) := by
  simp [State.enterAuto, State.tellStationInvalid, State.tellPlanGap, State.tellSideFrozen, State.restartSettle]

theorem State.entryContext_inRange (hg : s.Grounded) {x : Side} (h : (s.side x).context.InRange s.maxDepth) :
    (s.entryContext x).InRange s.maxDepth ∧ (s.entryContext x).override = none := by
  have hcut := s.clampDepth_plan ((s.measuredDepth x).getD 0)
  have hheld : between (-1500) 1500 (if (s.side x).mode = .slope then s.slopeCapture x else (s.side x).context.heldSlope) := by
    split
    · exact hg.channels.slopeCapture_between h
    · exact h.heldSlope
  unfold State.entryContext
  dsimp only
  split
  · refine ⟨?_, rfl⟩
    exact { h with
      planDepth := hcut
      override := by simp
      heldSlope := hheld
      entryDepth := hcut
      entryStation := hg.station.1 }
  · refine ⟨?_, rfl⟩
    exact { h with
      planDepth := hcut
      override := by simp
      heldSlope := hheld
      holdDepth := hcut }

theorem State.SidesLawful.enterAuto (h : s.SidesLawful) (hg : s.Grounded) {x : Side} (hne : (s.side x).state ≠ .referencing) :
    (s.enterAuto x).SidesLawful := by
  obtain ⟨hcontext, hoverride⟩ := State.entryContext_inRange hg (h x).context
  refine h.write x ?_ (State.enterAuto_other x s) (by simp) (by simp)
  rw [State.enterAuto_side]
  exact (h x).engage hne hcontext hoverride (Bank.firstStep_ne_abandoned _ _ _)

theorem State.SidesLawful.disengageSide (h : s.SidesLawful) (x : Side) : (s.disengageSide x).SidesLawful := by
  unfold State.disengageSide
  dsimp only
  cases hstate : (s.side x).state <;> dsimp only
  case idle => exact h
  case auto => exact h.leaveAuto hstate (.inl rfl)
  case frozen => exact (h.setSide ((h x).standDown (by simp [hstate]) (.inl rfl))).tell _ _
  all_goals exact h.setSide ((h x).standDown (by simp [hstate]) (.inl rfl))

theorem State.toManual_other (x : Side) (s : State) : (s.toManual x).side (otherSide x) = s.side (otherSide x) := by
  unfold State.toManual
  dsimp only
  split
  · simp
  · rfl
  · simp
  · exact State.leaveAuto_other x .manual s
  · simp [State.tellSideFrozen]

/-- A loop that JOG takes: in MANUAL with the lease, its demand kept, whatever its state was (R103). -/
theorem State.jogged_side (h : s.SidesLawful) (x : Side) (dir : Direction) :
    ((s.toManual x).startLease x dir).side x = { s.side x with
      state := .manual
      settle := .abandoned
      lease := some ⟨dir, 250⟩
      referencing := none
      context := { (s.side x).context with override := none, offer := none } } := by
  rw [State.startLease, State.setSide_side_same]
  have hsettle := (h x).settle
  have hoverride := (h x).override
  have hoffer := (h x).offer
  have href := (h x).referencing
  unfold State.toManual
  rcases hd : s.side x with ⟨state, mode, trim, demand, lease, settle, referencing, context⟩
  rcases context with ⟨source, e, st, hold, plan, depth, basis, slope, held, override, offer⟩
  rw [hd] at hsettle hoverride hoffer href
  cases state
  case auto =>
    rw [State.leaveAuto_side, hd]
    simpa [Config.leaseMs] using href
  all_goals simp_all [SideLoop.standDown, Config.leaseMs, State.tellSideFrozen]

theorem State.SidesLawful.jog (h : s.SidesLawful) (x : Side) (dir : Direction) :
    ((s.toManual x).startLease x dir).SidesLawful := by
  refine h.write x ?_ ?_ (by simp) (by simp)
  · rw [State.jogged_side h]
    exact (h x).jog dir
  · rw [State.startLease, State.setSide_side_other, State.toManual_other]

theorem State.SidesLawful.startReferencing (h : s.SidesLawful) {x : Side} (hne : (s.side x).state ≠ .auto) :
    (s.startReferencing x).SidesLawful :=
  h.setSide ((h x).reference hne _)

/-! ### The intervals -/

theorem State.SidesLawful.drive (h : s.SidesLawful) {x : Side} (u : Int)
    (hruns : (s.side x).state = .auto ∨ (s.side x).state = .referencing ∨ (s.side x).lease.isSome = true) :
    (s.drive x u).SidesLawful :=
  h.setSide ((h x).withDemand u hruns)

theorem State.SidesLawful.touch (h : s.SidesLawful) {x : Side} (href : (s.side x).state = .referencing) :
    (s.touch x).SidesLawful := by
  have hzero : (s.zeroAtTouch x).SidesLawful := by
    unfold State.zeroAtTouch
    split
    · exact h.setChannel _ _
    · exact h
  refine State.SidesLawful.raise (hzero.setSide ?_) _
  exact (hzero x).standDown (by rw [State.zeroAtTouch_side]; simp [href]) (.inr rfl)

theorem State.SidesLawful.sideInterval (h : s.SidesLawful) (hg : s.Grounded) (x : Side) : (s.sideInterval x).SidesLawful := by
  unfold State.sideInterval
  cases hstate : (s.side x).state with
  | idle | frozen => exact h
  | manual =>
    dsimp only
    split
    · rename_i l hl
      exact h.drive _ (.inr (.inr (by rw [hl]; rfl)))
    · exact h
  | referencing =>
    dsimp only [State.referencingInterval]
    split
    · exact h.touch hstate
    · exact h.failReferencing hstate
    · exact h.drive _ (.inr (.inl hstate))
  | auto => exact h.autoInterval hg hstate

theorem State.SidesLawful.nextSidePeriod (h : s.SidesLawful) (x : Side) : (s.nextSidePeriod x).SidesLawful := by
  cases x <;> exact h.of_eq (fun _ => rfl) rfl rfl

theorem State.SidesLawful.expireLease (h : s.SidesLawful) (x : Side) : (s.expireLease x).SidesLawful := by
  unfold State.expireLease
  dsimp only
  split
  · exact h.setSide (h x).expireLease
  · exact h

/-! ### Banks and governance -/

/-- Both demands are brought within the active bank, under whatever bank they were formed (R116). -/
theorem State.limitDemands_lawful {b : Bank} (h : ∀ x, (s.side x).Lawful b s.maxDepth) : s.limitDemands.SidesLawful := by
  intro x
  have hx := (h x).limitTo s.activeBank
  cases x <;> exact hx

theorem State.SidesLawful.handClass (h : s.SidesLawful) (material : Nat) : (s.handClass material).SidesLawful := by
  unfold State.handClass
  split
  · exact h
  · exact State.limitDemands_lawful (b := s.activeBank) h

theorem State.SidesLawful.governedBy (h : s.SidesLawful) (z : Zone) : (s.governedBy z).SidesLawful := by
  refine State.SidesLawful.handClass (State.SidesLawful.raise ?_ _) _
  exact h.of_eq (fun _ => rfl) rfl rfl

theorem State.SidesLawful.captureSide (h : s.SidesLawful) (hst : StationOk s) (hchannels : ChannelsOk s) {z : Zone}
    (hz : z.ok s.maxDepth) (x : Side) : (s.captureSide z x).SidesLawful := by
  refine h.write x ?_ (State.captureSide_other z x s) (by simp) (by simp)
  have hc := (h x).context
  rw [State.captureSide_side]
  split
  · refine (h x).withContext { hc with
      entryDepth := hc.planDepth
      entryStation := hst.1
      heldSlope := ?_ } rfl rfl
    dsimp only
    split
    · exact hchannels.slopeCapture_between hc
    · exact hc.heldSlope
  · have he : between 0 5000 (match s.measuredDepth x with | some m => s.clampDepth m | none => (z.depth x : Int)) := by
      split
      · exact s.clampDepth_plan _
      · exact hz.depth_between x
    exact (h x).withContext { hc with entryDepth := he, entryStation := hst.1, planDepth := he } rfl rfl

theorem State.SidesLawful.releaseSide (h : s.SidesLawful) (hchannels : ChannelsOk s) (x : Side) :
    (s.releaseSide x).SidesLawful := by
  refine h.write x ?_ (State.releaseSide_other x s) (by simp) (by simp)
  have hc := (h x).context
  rw [State.releaseSide_side]
  split
  · refine (h x).withContext { hc with
      holdDepth := ?_
      heldSlope := ?_ } rfl rfl
    · dsimp only
      split
      · exact hc.planDepth
      · exact hc.holdDepth
    · dsimp only
      split
      · exact hchannels.slopeCapture_between hc
      · exact hc.heldSlope
  · exact h x

theorem State.SidesLawful.takeGovernance (h : s.SidesLawful) (hst : StationOk s) (hchannels : ChannelsOk s) {z : Zone}
    (hz : z.ok s.maxDepth) : (s.takeGovernance z).SidesLawful := by
  have hmax : (s.governedBy z).maxDepth = s.maxDepth := State.maxDepth_congr (by simp)
  have hst' : StationOk (s.governedBy z) := hst.of_eq (by simp)
  have hchannels' : ChannelsOk (s.governedBy z) := hchannels.of_eq (by simp)
  have hleft := (h.governedBy z).captureSide hst' hchannels' (hmax ▸ hz) .left
  have hmax' : ((s.governedBy z).captureSide z .left).maxDepth = s.maxDepth := State.maxDepth_congr (by simp)
  exact (hleft.captureSide (hst'.of_eq (by simp)) (hchannels'.of_eq (by simp)) (hmax' ▸ hz) .right).tell _ _

theorem State.SidesLawful.loseGovernance (h : s.SidesLawful) (hchannels : ChannelsOk s) : s.loseGovernance.SidesLawful := by
  have hnone : ({ s with plan.governing := none } : State).SidesLawful := h.of_eq (fun _ => rfl) rfl rfl
  have hleft := hnone.releaseSide (hchannels.of_eq rfl) .left
  exact (hleft.releaseSide (hchannels.of_eq (by simp)) .right).tell _ _

theorem State.SidesLawful.reevaluate (h : s.SidesLawful) (hg : s.Grounded) (amended : Option Nat) :
    (s.reevaluate amended).SidesLawful := by
  obtain ⟨heq, -⟩ | ⟨z, hz, heq⟩ | ⟨-, -, heq⟩ := State.reevaluate_cases amended s <;> rw [heq]
  · exact h
  · exact h.takeGovernance hg.station hg.channels ((zonesOk_iff.mp hg.zones).2.2 z (State.candidate_some hz).1)
  · exact h.loseGovernance hg.channels

theorem State.Grounded.of_eq {t : State} (h : s.Grounded) (hzones : t.plan.zones = s.plan.zones)
    (hstation : t.station = s.station) (hmonitor : t.monitor = s.monitor) : t.Grounded where
  zones := h.zones.of_eq hzones (by rw [hstation])
  station := h.station.of_eq hstation
  channels := h.channels.of_eq hmonitor

theorem State.SidesLawful.stationChanged (h : s.SidesLawful) (hg : s.Grounded) {c : StationCounter}
    (hc : StationOk { s with station := c }) (hclass : c.drumClass = s.station.drumClass) :
    (({ s with station := c } : State).stationChanged s.station).SidesLawful := by
  have hmoved : ({ s with station := c } : State).SidesLawful := h.of_eq (fun _ => rfl) rfl hclass
  obtain ⟨-, -, heq⟩ | ⟨-, heq⟩ := State.stationChanged_cases s.station { s with station := c } <;> rw [heq]
  · exact hmoved
  · refine State.SidesLawful.tell (State.SidesLawful.reevaluate ?_ ?_ none) _ _
    · exact hmoved.of_eq (fun _ => rfl) rfl rfl
    · exact ⟨hg.zones.of_eq rfl hclass, hc, hg.channels.of_eq rfl⟩

theorem State.SidesLawful.storeBank (h : s.SidesLawful) (n : BankName) (b : Bank) : (s.storeBank n b).SidesLawful := by
  have hside : ∀ x, (s.setBank n b).side x = s.side x := fun x => by cases x <;> simp [State.side]
  have hmax : (s.setBank n b).maxDepth = s.maxDepth := State.maxDepth_congr (by simp)
  unfold State.storeBank
  split
  · refine State.limitDemands_lawful (b := s.activeBank) fun x => ?_
    rw [hside, hmax]
    exact h x
  · rename_i hother
    have hbank : (s.setBank n b).activeBank = s.activeBank := by
      unfold State.activeBank
      cases n <;> cases hactive : s.banks.active <;> simp_all [State.setBank, State.bank]
    intro x
    rw [hside, hmax, hbank]
    exact h x

/-! ### Every effect -/

theorem State.SidesLawful.storeZone (h : s.SidesLawful) (z : Zone) (zs : List Zone) : (s.storeZone z zs).SidesLawful := by
  unfold State.storeZone
  dsimp only
  split
  · refine State.SidesLawful.raise ?_ _
    exact h.of_eq (fun _ => rfl) rfl rfl
  · exact h.of_eq (fun _ => rfl) rfl rfl

/-- A change of the plan leaves the loops to governance. -/
theorem State.SidesLawful.replan {u : State} (h : u.SidesLawful) (hg : s.Grounded) {amended : Option Nat}
    (hzones : ZonesOk (u.reevaluate amended)) (hstation : u.station = s.station) (hmonitor : u.monitor = s.monitor) :
    (u.reevaluate amended).SidesLawful :=
  h.reevaluate ⟨hzones.of_eq (by simp) (by simp), hg.station.of_eq hstation, hg.channels.of_eq hmonitor⟩ amended

theorem Effect.keepsLoops {t : State} {i : Instr} (h : Effect s i t) (hs : s.SidesLawful) (hg : s.Grounded) :
    t.SidesLawful := by
  have hclass := h.keepsDrumClass
  have hzones := h.keepsZones hg.zones
  cases h with
  | zoneStored | zoneAmended => exact (hs.storeZone _ _).replan hg hzones (State.storeZone_station _ _ _) (by simp)
  | zoneSuspended | zoneReinstated | zoneRetired | planCleared =>
    refine State.SidesLawful.replan ?_ hg hzones rfl rfl
    exact hs.of_eq (fun _ => rfl) rfl rfl
  | @stationFixed _ st hst =>
    exact hs.stationChanged hg ⟨hst, Nat.zero_le _, hg.station.2.2⟩ rfl
  | counted =>
    obtain ⟨hgeometry, hdrum⟩ := StationCounter.count_geometry _ s.station
    obtain ⟨hst, hf⟩ := StationCounter.count_ok hg.station.1 hg.station.2.1 hg.station.2.2
    exact hs.stationChanged hg ⟨hst, hf, by rw [hgeometry]; exact hg.station.2.2⟩ hdrum
  | channelConfigured => exact ((hs.setChannel _ _).handOver _ _).tell _ _
  | channelCleared =>
    refine State.SidesLawful.tell (State.SidesLawful.setChannel ?_ _ _) _ _
    unfold State.dropRole
    split
    · exact hs.setRole _ _
    · exact hs
  | roleAssigned => exact (hs.setRole _ _).tell _ _
  | roleTransferred _ _ huse hfree => exact hs.transfer huse hfree
  | zeroSet => exact hs.setChannel _ _
  | readingTaken => exact hs.takeReading _
  | freshnessExpired => exact hs.expireFreshness _
  | engaged _ hstate => exact hs.enterAuto hg hstate.1
  | disengaged => exact hs.disengageSide _
  | jogged => exact hs.jog _ _
  | @referenceBegun _ x _ hstate =>
    refine hs.startReferencing fun hx => ?_
    simp [hx] at hstate
  | @modeSet _ x m hstate => exact hs.setSide ((hs x).withMode hstate.1 m)
  | @trimSet _ x v => exact hs.setSide ((hs x).withTrim v)
  | sideIntervalEnded | dwellEnded => exact (hs.sideInterval hg _).nextSidePeriod _
  | leaseExpired => exact hs.expireLease _
  | bankStored => exact hs.storeBank _ _
  | malformedAnswered hu =>
    obtain ⟨-, hstation, -, hleft, hright, hbanks, -⟩ := State.takeFrame_keepsBlocks hu
    exact hs.of_eq (fun x => by cases x <;> assumption) hbanks (congrArg StationCounter.drumClass hstation)
  | _ => exact hs.of_eq (fun x => by cases x <;> simp [State.side]) (by simp) hclass

end

end Sys2Proof.Machine
end

section
/-! Hand-overs of a channel (O25): what the Side Loops do with one, side by side, and what they leave of the marks. -/
namespace Sys2Proof.Machine

/-! ### A loop that freezes or fails to reference (R101, R106, R112) -/

/-- A loop that freezes. -/
def SideLoop.toFrozen (d : SideLoop) : SideLoop := { d with
  state := .frozen, demand := 0, settle := .abandoned, context := { d.context with override := none, offer := none } }

/-- A loop that fails to reference. -/
def SideLoop.toFailed (d : SideLoop) : SideLoop := { d with state := .idle, demand := 0, referencing := none }

section
variable (s : State) (x : Side)

theorem State.freeze_side : (s.freeze x).side x = (s.side x).toFrozen := by
  rw [State.freeze, State.tellSideFrozen, State.tellCause_side, State.leaveAuto_side]
  rfl

theorem State.freeze_other : (s.freeze x).side (otherSide x) = s.side (otherSide x) := by
  rw [State.freeze, State.tellSideFrozen, State.tellCause_side, State.leaveAuto_other]

theorem State.gradeLost_side : (s.gradeLost x).side x = if (s.side x).state = .auto then (s.side x).toFrozen
    else if (s.side x).state = .referencing then (s.side x).toFailed else s.side x := by
  obtain ⟨hauto, heq⟩ | ⟨href, heq⟩ | ⟨hauto, href, heq⟩ := State.gradeLost_cases x s <;> rw [heq]
  · rw [if_pos hauto, State.freeze_side]
  · rw [if_neg (by simp [href]), if_pos href]
    exact State.failReferencing_side x s
  · rw [if_neg hauto, if_neg href]

theorem State.gradeLost_other : (s.gradeLost x).side (otherSide x) = s.side (otherSide x) := by
  obtain ⟨-, heq⟩ | ⟨-, heq⟩ | ⟨-, -, heq⟩ := State.gradeLost_cases x s <;> rw [heq]
  · exact s.freeze_other x
  · exact State.failReferencing_other x s

theorem State.slopeLost_side : (s.slopeLost x).side x =
    if (s.side x).state = .auto ∧ (s.side x).mode = .slope then (s.side x).toFrozen else s.side x := by
  obtain ⟨hauto, hslope, heq⟩ | ⟨hnot, heq⟩ := State.slopeLost_cases x s <;> rw [heq]
  · rw [if_pos ⟨hauto, hslope⟩, State.freeze_side]
  · rw [if_neg hnot]

theorem State.slopeLost_other : (s.slopeLost x).side (otherSide x) = s.side (otherSide x) := by
  obtain ⟨-, -, heq⟩ | ⟨-, heq⟩ := State.slopeLost_cases x s <;> rw [heq]
  exact s.freeze_other x

theorem State.loadLost_side : (s.loadLost x).side x =
    if (s.side x).state = .referencing then (s.side x).toFailed else s.side x := by
  obtain ⟨href, heq⟩ | ⟨hnot, heq⟩ := State.loadLost_cases x s <;> rw [heq]
  · rw [if_pos href]
    exact State.failReferencing_side x s
  · rw [if_neg hnot]

theorem State.loadLost_other : (s.loadLost x).side (otherSide x) = s.side (otherSide x) := by
  obtain ⟨-, heq⟩ | ⟨-, heq⟩ := State.loadLost_cases x s <;> rw [heq]
  exact State.failReferencing_other x s

/-! ### What leaves the marks as a frozen side leaves them (R57) -/

/-- The plan after the sides named have left AUTO. -/
def PlanStore.leftBy (l r : Bool) (p : PlanStore) : PlanStore := { p with
  marks := p.marks.map (fun m => let m₁ := if l then m.leftBy .left else m; if r then m₁.leftBy .right else m₁) }

theorem PlanStore.leftBy_none (p : PlanStore) : p.leftBy false false = p := by simp [PlanStore.leftBy]

theorem PlanStore.leftBy_leftBy (l r : Bool) (p : PlanStore) : (p.leftBy l false).leftBy false r = p.leftBy l r := by
  simp only [PlanStore.leftBy, List.map_map, Bool.false_eq_true, ↓reduceIte]
  rfl

theorem State.freeze_plan : (s.freeze x).plan = s.plan.leftBy (x = .left) (x = .right) := by
  rw [State.freeze, State.tellSideFrozen, State.tellCause_plan, State.leaveAuto_marks]
  cases x <;> simp [PlanStore.leftBy]

theorem State.gradeLost_plan : (s.gradeLost x).plan =
    s.plan.leftBy (x = .left && (s.side x).state = .auto) (x = .right && (s.side x).state = .auto) := by
  obtain ⟨hauto, heq⟩ | ⟨href, heq⟩ | ⟨hauto, href, heq⟩ := State.gradeLost_cases x s <;> rw [heq]
  · simp [State.freeze_plan, hauto]
  · simp [href, PlanStore.leftBy_none]
  · simp [hauto, PlanStore.leftBy_none]

theorem State.slopeLost_plan : (s.slopeLost x).plan =
    s.plan.leftBy (x = .left && ((s.side x).state = .auto ∧ (s.side x).mode = .slope))
      (x = .right && ((s.side x).state = .auto ∧ (s.side x).mode = .slope)) := by
  obtain ⟨hauto, hslope, heq⟩ | ⟨hnot, heq⟩ := State.slopeLost_cases x s <;> rw [heq]
  · simp [State.freeze_plan, hauto, hslope]
  · rw [decide_eq_false hnot, Bool.and_false, Bool.and_false, PlanStore.leftBy_none]

end

/-! ### What the sides do with the channel of a role -/

/-- A side freezes when a channel it needs in AUTO leaves LIVE (R105). -/
@[reducible] def State.FreezesBy (r : Role) (lost : Bool) (x : Side) (s : State) : Prop :=
  (s.side x).state = .auto ∧ lost = true ∧ (r = gradeRole x ∨ r = .crossSlope ∧ (s.side x).mode = .slope)

/-- A side fails to reference when a channel it needs leaves LIVE, or the drum disengages (R105, R112). -/
@[reducible] def State.FailsBy (r : Role) (lost idle : Bool) (x : Side) (s : State) : Prop :=
  (s.side x).state = .referencing ∧ ((lost = true ∧ r = gradeRole x) ∨ ((lost = true ∨ idle = true) ∧ r = .drumLoad))

section
variable (s : State) (lost idle : Bool) (x : Side)

theorem State.loadLost_loadLost_side : ((s.loadLost .left).loadLost .right).side x =
    if (s.side x).state = .referencing then (s.side x).toFailed else s.side x := by
  cases x with
  | left =>
    have hother : ((s.loadLost .left).loadLost .right).side .left = (s.loadLost .left).side .left :=
      (s.loadLost .left).loadLost_other .right
    rw [hother, State.loadLost_side]
  | right =>
    have hother : (s.loadLost .left).side .right = s.side .right := s.loadLost_other .left
    rw [State.loadLost_side, hother]

theorem State.slopeLost_slopeLost_side : ((s.slopeLost .left).slopeLost .right).side x =
    if (s.side x).state = .auto ∧ (s.side x).mode = .slope then (s.side x).toFrozen else s.side x := by
  cases x with
  | left =>
    have hother : ((s.slopeLost .left).slopeLost .right).side .left = (s.slopeLost .left).side .left :=
      (s.slopeLost .left).slopeLost_other .right
    rw [hother, State.slopeLost_side]
  | right =>
    have hother : (s.slopeLost .left).side .right = s.side .right := s.slopeLost_other .left
    rw [State.slopeLost_side, hother]

/-- A grade channel is one side's own. -/
theorem State.sidesAfter_grade (y : Side) : s.sidesAfter (gradeRole y) lost idle = if lost then s.gradeLost y else s := by
  cases y <;> rfl

theorem otherSide_otherSide (x : Side) : otherSide (otherSide x) = x := by cases x <;> rfl

theorem gradeRole_inj {x y : Side} : gradeRole y = gradeRole x ↔ y = x := by cases x <;> cases y <;> simp [gradeRole]

theorem gradeRole_ne (x : Side) : gradeRole x ≠ .crossSlope ∧ gradeRole x ≠ .drumLoad ∧ gradeRole x ≠ .beltPressure := by
  cases x <;> simp [gradeRole]

theorem Role.eq_gradeRole_or (r : Role) : (∃ y, r = gradeRole y) ∨ r = .crossSlope ∨ r = .drumLoad ∨ r = .beltPressure := by
  cases r with
  | leftGrade => exact .inl ⟨.left, rfl⟩
  | rightGrade => exact .inl ⟨.right, rfl⟩
  | crossSlope => exact .inr (.inl rfl)
  | drumLoad => exact .inr (.inr (.inl rfl))
  | beltPressure => exact .inr (.inr (.inr rfl))

theorem State.sidesAfter_side (r : Role) : (s.sidesAfter r lost idle).side x =
    if s.FreezesBy r lost x then (s.side x).toFrozen
    else if s.FailsBy r lost idle x then (s.side x).toFailed else s.side x := by
  have hne := gradeRole_ne x
  obtain ⟨y, rfl⟩ | rfl | rfl | rfl := r.eq_gradeRole_or
  · rw [State.sidesAfter_grade]
    obtain rfl | rfl := Side.eq_or_eq_other x y
    · cases lost <;> simp [State.FreezesBy, State.FailsBy, State.gradeLost_side, hne]
    · have hyx : otherSide x ≠ x := by cases x <;> decide
      have hback : ∀ u : State, (u.gradeLost (otherSide x)).side x = u.side x := fun u => by
        have := u.gradeLost_other (otherSide x)
        rwa [otherSide_otherSide] at this
      have hneOther := gradeRole_ne (otherSide x)
      cases lost <;> simp [State.FreezesBy, State.FailsBy, hback, gradeRole_inj, hyx, hneOther]
  · cases lost <;> simp [State.sidesAfter, State.FreezesBy, State.FailsBy, State.slopeLost_slopeLost_side, hne.1.symm]
  · cases lost <;> cases idle <;>
      simp [State.sidesAfter, State.FreezesBy, State.FailsBy, State.loadLost_loadLost_side, hne.2.1.symm]
  · simp [State.sidesAfter, State.FreezesBy, State.FailsBy, hne.2.2.symm]

theorem State.sidesAfter_plan (r : Role) : (s.sidesAfter r lost idle).plan =
    s.plan.leftBy (s.FreezesBy r lost .left) (s.FreezesBy r lost .right) := by
  obtain ⟨y, rfl⟩ | rfl | rfl | rfl := r.eq_gradeRole_or
  · rw [State.sidesAfter_grade]
    cases lost <;> cases y <;>
      simp [State.FreezesBy, State.gradeLost_plan, gradeRole, PlanStore.leftBy_none, and_comm]
  · cases lost with
    | false => simp [State.sidesAfter, State.FreezesBy, PlanStore.leftBy_none]
    | true =>
      have hother : (s.slopeLost .left).side .right = s.side .right := s.slopeLost_other .left
      simp [State.sidesAfter, State.slopeLost_plan, hother, State.FreezesBy, gradeRole, PlanStore.leftBy_leftBy]
  · have : (s.sidesAfter .drumLoad lost idle).plan = s.plan := by
      dsimp only [State.sidesAfter]
      split <;> simp
    simp [this, State.FreezesBy, gradeRole, PlanStore.leftBy_none]
  · simp [State.sidesAfter, State.FreezesBy, gradeRole, PlanStore.leftBy_none]

theorem State.failReferencing_latch : ((s.failReferencing x).notice .referenceFailed).latch = true := by
  simp [State.failReferencing, State.raiseNotice]

theorem State.loadLost_latch (h : (s.side x).state = .referencing ∨ (s.notice .referenceFailed).latch = true) :
    ((s.loadLost x).notice .referenceFailed).latch = true := by
  obtain ⟨-, heq⟩ | ⟨hnot, heq⟩ := State.loadLost_cases x s <;> rw [heq]
  · exact s.failReferencing_latch x
  · exact h.resolve_left hnot

theorem State.sidesAfter_latch {r : Role} (h : s.FailsBy r lost idle x) :
    ((s.sidesAfter r lost idle).notice .referenceFailed).latch = true := by
  obtain ⟨href, ⟨rfl, rfl⟩ | ⟨hcause, rfl⟩⟩ := h
  · rw [State.sidesAfter_grade, if_pos rfl]
    obtain ⟨hauto, -⟩ | ⟨-, heq⟩ | ⟨-, hnot, -⟩ := State.gradeLost_cases x s
    · exact absurd (hauto.symm.trans href) (by decide)
    · rw [heq]
      exact s.failReferencing_latch x
    · exact absurd href hnot
  · have hboth : s.sidesAfter .drumLoad lost idle = (s.loadLost .left).loadLost .right := if_pos (by simpa using hcause)
    rw [hboth]
    cases x with
    | left => exact State.loadLost_latch _ _ (.inr (State.loadLost_latch _ _ (.inl href)))
    | right =>
      have hother : (s.loadLost .left).side .right = s.side .right := s.loadLost_other .left
      exact State.loadLost_latch _ _ (.inl (hother ▸ href))

/-! ### The hand-over (R77) -/

/-- The channel has left LIVE. -/
def Channel.leftLive (before now : Channel) : Bool := before.health = .live && now.health ≠ .live

/-- The drum has disengaged. -/
def Channel.stoppedDrum (before now : Channel) : Bool := before.engaged && !now.engaged

theorem State.sidesAfter_nothing (r : Role) : s.sidesAfter r false false = s := by cases r <;> rfl

end

/-- A hand-over is what the sides do with the channel of its role, and SENSOR_LOST, of which nothing but the notices
tells. -/
theorem State.handOver_after {s : State} {n : Fin 8} {r : Role} (hr : s.roleHeld n = some r) (before : Channel) :
    s.handOver n before = s.sidesAfter r (before.leftLive (s.channel n)) (before.stoppedDrum (s.channel n)) ∨
    s.handOver n before =
      (s.sidesAfter r (before.leftLive (s.channel n)) (before.stoppedDrum (s.channel n))).tellSensorLost := by
  rw [State.handOver_eq, hr]
  split
  · rename_i hsame
    have hlost : before.leftLive (s.channel n) = false := by simp [Channel.leftLive, hsame.1]
    have hidle : before.stoppedDrum (s.channel n) = false := by simp [Channel.stoppedDrum, hsame.2]
    rw [hlost, hidle, State.sidesAfter_nothing]
    exact .inl rfl
  · exact .inr rfl

theorem State.handOver_free {s : State} {n : Fin 8} (hfree : s.roleHeld n = none) (before : Channel) :
    s.handOver n before = s := by
  rw [State.handOver_eq, hfree]
  split <;> rfl

theorem Channel.leftLive_iff {before now : Channel} :
    before.leftLive now = true ↔ before.health = .live ∧ now.health ≠ .live := by
  simp [Channel.leftLive]

theorem Channel.stoppedDrum_iff {before now : Channel} :
    before.stoppedDrum now = true ↔ before.engaged = true ∧ now.engaged = false := by
  simp [Channel.stoppedDrum]

/-- The blocks no hand-over writes. -/
theorem State.handOver_blocks (s : State) (n : Fin 8) (before : Channel) : (s.handOver n before).monitor = s.monitor ∧
    (s.handOver n before).station = s.station ∧ (s.handOver n before).banks = s.banks ∧
    (s.handOver n before).governor = s.governor ∧ (s.handOver n before).conveyor = s.conveyor ∧
    (s.handOver n before).link = s.link ∧ (s.handOver n before).sensorLink = s.sensorLink ∧
    (s.handOver n before).timers = s.timers ∧ (s.handOver n before).heldReset = s.heldReset := by simp

theorem State.tellCause_notice_ne {s : State} {n k : Notice} (h : k ≠ n) (v : Bool) :
    (s.tellCause n v).notice k = s.notice k := by
  obtain ⟨-, -, heq⟩ | ⟨-, -, heq⟩ | ⟨-, heq⟩ := State.tellCause_cases n v s <;> rw [heq]
  · rw [State.updateAlert_notice, State.setNotice_notice_ne _ h]
  · rw [State.setNotice_notice_ne _ h]

/-- What a hand-over leaves of the sides, the plan and REFERENCE_FAILED is what the sides do with the channel. -/
theorem State.handOver_sides {s : State} {n : Fin 8} {r : Role} (hr : s.roleHeld n = some r) (before : Channel) :
    (∀ x, (s.handOver n before).side x =
      (s.sidesAfter r (before.leftLive (s.channel n)) (before.stoppedDrum (s.channel n))).side x) ∧
    (s.handOver n before).plan =
      (s.sidesAfter r (before.leftLive (s.channel n)) (before.stoppedDrum (s.channel n))).plan ∧
    (s.handOver n before).notice .referenceFailed =
      (s.sidesAfter r (before.leftLive (s.channel n)) (before.stoppedDrum (s.channel n))).notice .referenceFailed := by
  obtain heq | heq := State.handOver_after hr before <;> rw [heq]
  · exact ⟨fun _ => rfl, rfl, rfl⟩
  · refine ⟨fun x => by rw [State.tellSensorLost, State.tellCause_side], by rw [State.tellSensorLost, State.tellCause_plan], ?_⟩
    exact State.tellCause_notice_ne (by decide) _

/-- Settles O25: with one role to a channel, the sides do with a hand-over what `sidesAfter` says of that role. -/
theorem handOversFreezeAndFail : Obligations.HandOversFreezeAndFail := by
  unfold Obligations.HandOversFreezeAndFail
  intro n old s x hchannels
  dsimp only
  cases hheld : s.roleHeld n with
  | none =>
    have hno : ∀ q, s.monitor.roles.get q ≠ some n := State.roleHeld_eq_none.mp hheld
    rw [State.handOver_free hheld]
    simp only [hno, false_and, or_false, and_false, false_imp_iff, not_false_eq_true, true_imp_iff, true_and]
    refine ⟨fun l r hl hr => ?_, trivial⟩
    have hl : l = false := by simpa using hl
    have hr : r = false := by simpa using hr
    rw [hl, hr]
    exact (PlanStore.leftBy_none s.plan).symm
  | some r =>
    obtain ⟨hside, hplan, hnotice⟩ := State.handOver_sides hheld old
    have hrole : ∀ q, s.monitor.roles.get q = some n ↔ r = q := fun q => by
      rw [← hchannels.roleHeld_iff, hheld, Option.some.injEq]
    have hfreezes : ∀ y, s.FreezesBy r (old.leftLive (s.channel n)) y ↔
        ((s.side y).state = .auto ∧ (old.health = .live ∧ (s.channel n).health ≠ .live) ∧
          (s.monitor.roles.get (gradeRole y) = some n ∨
            s.monitor.roles.get .crossSlope = some n ∧ (s.side y).mode = .slope)) := fun y => by
      rw [State.FreezesBy, Channel.leftLive_iff, hrole, hrole]
    have hfails : s.FailsBy r (old.leftLive (s.channel n)) (old.stoppedDrum (s.channel n)) x ↔
        ((s.side x).state = .referencing ∧ (((old.health = .live ∧ (s.channel n).health ≠ .live) ∧
            s.monitor.roles.get (gradeRole x) = some n) ∨
          ((old.health = .live ∧ (s.channel n).health ≠ .live) ∨ (old.engaged = true ∧ (s.channel n).engaged = false)) ∧
            s.monitor.roles.get .drumLoad = some n)) := by
      rw [State.FailsBy, Channel.leftLive_iff, Channel.stoppedDrum_iff, hrole, hrole]
    simp only [← hfreezes, ← hfails]
    rw [hside, hplan, hnotice, State.sidesAfter_side]
    refine ⟨fun hf => ?_, fun hf => ⟨?_, State.sidesAfter_latch _ _ _ _ hf⟩, fun hnf hnfail => ?_,
      fun left right hleft hright => ?_, s.handOver_blocks n old⟩
    · rw [if_pos hf]
      rfl
    · have hnot : ¬ s.FreezesBy r (old.leftLive (s.channel n)) x := fun h => absurd (h.1.symm.trans hf.1) (by decide)
      rw [if_neg hnot, if_pos hf]
      rfl
    · rw [if_neg hnf, if_neg hnfail]
    · rw [State.sidesAfter_plan, Bool.eq_iff_iff.mpr (decide_eq_true_iff.trans hleft.symm),
        Bool.eq_iff_iff.mpr (decide_eq_true_iff.trans hright.symm)]
      rfl

end Sys2Proof.Machine
end

section
/-! The laws that tie the sides to the channels they need, to governance and to each other (R48, R105, R107, R110):
what an operation may do to the states of the sides, and every effect keeps the laws. -/
namespace Sys2Proof.Machine

/-! ### Sides that enter no state -/

/-- No side enters AUTO or REFERENCING, a side in AUTO keeps its source, and the modes stand. -/
def State.SidesFollow (s t : State) : Prop := ∀ x, (t.side x).mode = (s.side x).mode ∧
  ((t.side x).state = .auto → (s.side x).state = .auto ∧ (t.side x).context.source = (s.side x).context.source) ∧
  ((t.side x).state = .referencing → (s.side x).state = .referencing)

section
variable {s t u : State}

theorem State.SidesFollow.of_eq (h : ∀ x, t.side x = s.side x) : s.SidesFollow t := fun x => by
  rw [h x]
  exact ⟨rfl, fun ha => ⟨ha, rfl⟩, id⟩

theorem State.SidesFollow.trans (h : s.SidesFollow t) (h' : t.SidesFollow u) : s.SidesFollow u := fun x => by
  obtain ⟨hm, ha, hr⟩ := h x
  obtain ⟨hm', ha', hr'⟩ := h' x
  refine ⟨hm'.trans hm, fun hx => ?_, fun hx => hr (hr' hx)⟩
  obtain ⟨hauto, hsource⟩ := ha' hx
  exact ⟨(ha hauto).1, hsource.trans (ha hauto).2⟩

/-- One side is rewritten and the other stands. -/
theorem State.SidesFollow.write (x : Side) (hother : t.side (otherSide x) = s.side (otherSide x))
    (hmode : (t.side x).mode = (s.side x).mode)
    (hauto : (t.side x).state = .auto → (s.side x).state = .auto ∧
      (t.side x).context.source = (s.side x).context.source)
    (href : (t.side x).state = .referencing → (s.side x).state = .referencing) : s.SidesFollow t := fun y => by
  obtain rfl | rfl := Side.eq_or_eq_other x y
  · exact ⟨hmode, hauto, href⟩
  · rw [hother]
    exact ⟨rfl, fun ha => ⟨ha, rfl⟩, id⟩

/-- A side is rewritten with the state it had, or stands down. -/
theorem State.SidesFollow.setSide {x : Side} {v : SideLoop} (hmode : v.mode = (s.side x).mode)
    (hstate : v.state = (s.side x).state ∧ v.context.source = (s.side x).context.source ∨
      v.state ≠ .auto ∧ v.state ≠ .referencing) : s.SidesFollow (s.setSide x v) := by
  refine .write x (by simp) (by rwa [State.setSide_side_same]) ?_ ?_ <;> rw [State.setSide_side_same]
  · intro ha
    obtain ⟨hstate, hsource⟩ | ⟨hne, -⟩ := hstate
    · exact ⟨hstate ▸ ha, hsource⟩
    · exact absurd ha hne
  · intro hr
    obtain ⟨hstate, -⟩ | ⟨-, hne⟩ := hstate
    · exact hstate ▸ hr
    · exact absurd hr hne

theorem State.SidesFollow.standDown (x : Side) {dest : SideState} (demand : Int) (hdest : dest ≠ .auto ∧ dest ≠ .referencing) :
    s.SidesFollow (s.setSide x ((s.side x).standDown dest demand)) := .setSide rfl (.inr hdest)

theorem State.SidesFollow.leaveAuto (x : Side) {dest : SideState} (hdest : dest ≠ .auto ∧ dest ≠ .referencing) :
    s.SidesFollow (s.leaveAuto x dest) := by
  refine .write x (State.leaveAuto_other x dest s) ?_ ?_ ?_ <;> rw [State.leaveAuto_side]
  · exact fun ha => absurd ha hdest.1
  · exact fun hr => absurd hr hdest.2

theorem State.SidesFollow.tell (h : s.SidesFollow t) (n : Notice) (b : Bool) : s.SidesFollow (t.tellCause n b) :=
  h.trans (.of_eq fun x => by simp)

theorem State.SidesFollow.sidesAfter (r : Role) (lost idle : Bool) : s.SidesFollow (s.sidesAfter r lost idle) := fun x => by
  rw [State.sidesAfter_side]
  split
  · exact ⟨rfl, nofun, nofun⟩
  · split
    · exact ⟨rfl, nofun, nofun⟩
    · exact ⟨rfl, fun ha => ⟨ha, rfl⟩, id⟩

theorem State.SidesFollow.handOver (n : Fin 8) (before : Channel) : s.SidesFollow (s.handOver n before) := by
  cases hheld : s.roleHeld n with
  | none =>
    rw [State.handOver_free hheld]
    exact .of_eq fun _ => rfl
  | some r => exact (State.SidesFollow.sidesAfter r _ _).trans (.of_eq (State.handOver_sides hheld before).1)

theorem State.SidesFollow.disengageSide (x : Side) : s.SidesFollow (s.disengageSide x) := by
  unfold State.disengageSide
  dsimp only
  cases (s.side x).state <;> dsimp only
  case idle => exact .of_eq fun _ => rfl
  case auto => exact .leaveAuto x (by decide)
  case frozen => exact (State.SidesFollow.standDown x _ (by decide)).tell _ _
  all_goals exact .standDown x _ (by decide)

theorem State.SidesFollow.toManual (x : Side) : s.SidesFollow (s.toManual x) := by
  unfold State.toManual
  dsimp only
  cases (s.side x).state <;> dsimp only
  case manual => exact .of_eq fun _ => rfl
  case auto => exact .leaveAuto x (by decide)
  case frozen => exact (State.SidesFollow.standDown x _ (by decide)).tell _ _
  all_goals exact .standDown x _ (by decide)

theorem State.SidesFollow.failReferencing (x : Side) : s.SidesFollow (s.failReferencing x) := by
  refine .write x (State.failReferencing_other x s) ?_ ?_ ?_ <;> rw [State.failReferencing_side]
  · intro ha
    cases ha
  · intro hr
    cases hr

theorem State.SidesFollow.sideInterval (x : Side) : s.SidesFollow (s.sideInterval x) := by
  unfold State.sideInterval
  cases hstate : (s.side x).state with
  | idle | frozen => exact .of_eq fun _ => rfl
  | manual =>
    dsimp only
    split
    · exact .setSide rfl (.inl ⟨rfl, rfl⟩)
    · exact .of_eq fun _ => rfl
  | referencing =>
    dsimp only [State.referencingInterval]
    split
    · have hzero : s.SidesFollow (s.zeroAtTouch x) := .of_eq fun y => State.zeroAtTouch_side x s y
      exact hzero.trans ((State.SidesFollow.standDown x (dest := .manual) 0 (by decide)).trans (.of_eq fun _ => rfl))
    · exact .failReferencing x
    · exact .setSide rfl (.inl ⟨rfl, rfl⟩)
  | auto =>
    refine .write x (State.autoInterval_other x s) ?_ ?_ ?_ <;> rw [State.autoInterval_side]
    · rfl
    · exact fun _ => ⟨hstate, rfl⟩
    · exact id

theorem State.SidesFollow.nextSidePeriod (x : Side) : s.SidesFollow (s.nextSidePeriod x) :=
  .of_eq fun y => by cases x <;> rfl

theorem State.SidesFollow.expireLease (x : Side) : s.SidesFollow (s.expireLease x) := by
  unfold State.expireLease
  dsimp only
  split
  · exact .setSide rfl (.inl ⟨rfl, rfl⟩)
  · exact .of_eq fun _ => rfl

theorem State.SidesFollow.limitDemands : s.SidesFollow s.limitDemands := fun x => by
  cases x <;> exact ⟨rfl, fun ha => ⟨ha, rfl⟩, id⟩

theorem State.SidesFollow.storeBank (n : BankName) (b : Bank) : s.SidesFollow (s.storeBank n b) := by
  have hset : s.SidesFollow (s.setBank n b) := .of_eq fun x => by cases x <;> simp [State.side]
  unfold State.storeBank
  split
  · exact hset.trans .limitDemands
  · exact hset

theorem State.SidesFollow.restartSettle (x : Side) : s.SidesFollow (s.restartSettle x) := .setSide rfl (.inl ⟨rfl, rfl⟩)

end

/-! ### The channels a side needs (R105, R110) -/

/-- The channels back a loop of side `x`. -/
structure State.Backs (s : State) (x : Side) (d : SideLoop) : Prop where
  grade : d.state = .auto ∨ d.state = .referencing → s.holdsLive (gradeRole x)
  referenced : d.state = .auto → s.isReferenced x = true
  slope : d.state = .auto → d.mode = .slope → s.holdsLive .crossSlope
  load : d.state = .referencing → ∃ c ∈ s.roleChannel .drumLoad, c.health = .live ∧ c.engaged = true

/-- The channels back both sides. -/
def State.Backed (s : State) : Prop := ∀ x, s.Backs x (s.side x)

section
variable {s t : State} {x : Side} {d d' : SideLoop}

/-- A loop that is neither in AUTO nor in REFERENCING needs no channel. -/
theorem State.Backs.of_standing (h : d.state ≠ .auto ∧ d.state ≠ .referencing) : s.Backs x d where
  grade hx := absurd hx (not_or.mpr h)
  referenced hx := absurd hx h.1
  slope hx := absurd hx h.1
  load hx := absurd hx h.2

theorem State.Backs.of_monitor (h : s.Backs x d) (hmonitor : t.monitor = s.monitor) : t.Backs x d := by
  have hrole : ∀ r, t.roleChannel r = s.roleChannel r := fun r => by simp only [State.roleChannel, State.channel, hmonitor]
  obtain ⟨h1, h2, h3, h4⟩ := h
  constructor
  · simpa only [State.holdsLive, hrole] using h1
  · simpa only [State.isReferenced, hrole] using h2
  · simpa only [State.holdsLive, hrole] using h3
  · simpa only [hrole] using h4

/-- A loop that is in AUTO or REFERENCING only where another was, in the same mode, needs no more. -/
theorem State.Backs.mono (h : s.Backs x d) (hmode : d'.mode = d.mode) (hauto : d'.state = .auto → d.state = .auto)
    (href : d'.state = .referencing → d.state = .referencing) : s.Backs x d' where
  grade hx := h.grade (hx.imp hauto href)
  referenced hx := h.referenced (hauto hx)
  slope hx hm := h.slope (hauto hx) (hmode ▸ hm)
  load hx := h.load (href hx)

theorem State.Backed.follow (h : s.Backed) (hfollow : s.SidesFollow t) (hmonitor : t.monitor = s.monitor) : t.Backed := fun x =>
  ((h x).mono (hfollow x).1 (fun ha => ((hfollow x).2.1 ha).1) (hfollow x).2.2).of_monitor hmonitor

theorem State.Backed.write (h : s.Backed) (x : Side) (hx : s.Backs x (t.side x))
    (hother : t.side (otherSide x) = s.side (otherSide x)) (hmonitor : t.monitor = s.monitor) : t.Backed := fun y => by
  obtain rfl | rfl := Side.eq_or_eq_other x y
  · exact hx.of_monitor hmonitor
  · rw [hother]
    exact (h _).of_monitor hmonitor

theorem State.holdsLive_iff {r : Role} : s.holdsLive r ↔ ∃ n, s.monitor.roles.get r = some n ∧ (s.channel n).health = .live := by
  unfold State.holdsLive State.roleChannel
  cases s.monitor.roles.get r <;> simp

theorem State.isReferenced_iff : s.isReferenced x = true ↔
    ∃ n, s.monitor.roles.get (gradeRole x) = some n ∧ (s.channel n).zero.isSome = true := by
  unfold State.isReferenced State.roleChannel
  cases s.monitor.roles.get (gradeRole x) <;> simp

/-- A channel record is written: of the roles the loop needs, the one the channel holds is still served. -/
theorem State.Backs.setChannel (h : s.Backs x d) {n : Fin 8} {c : Channel}
    (hgrade : s.monitor.roles.get (gradeRole x) = some n → d.state = .auto ∨ d.state = .referencing →
      (s.channel n).health = .live → c.health = .live)
    (hzero : s.monitor.roles.get (gradeRole x) = some n → d.state = .auto → (s.channel n).zero.isSome = true →
      c.zero.isSome = true)
    (hslope : s.monitor.roles.get .crossSlope = some n → d.state = .auto → d.mode = .slope →
      (s.channel n).health = .live → c.health = .live)
    (hload : s.monitor.roles.get .drumLoad = some n → d.state = .referencing → (s.channel n).health = .live →
      (s.channel n).engaged = true → c.health = .live ∧ c.engaged = true) : (s.setChannel n c).Backs x d := by
  have hwritten : ∀ (k : Fin 8) (p : Channel → Prop), p (s.channel k) → (k = n → p (s.channel n) → p c) →
      p ((s.setChannel n c).channel k) := fun k p hk hp => by
    by_cases hkn : k = n
    · subst hkn
      rw [State.setChannel_channel_same]
      exact hp rfl hk
    · rwa [State.setChannel_channel_ne s hkn]
  refine ⟨fun hx => ?_, fun hx => ?_, fun hx hm => ?_, fun hx => ?_⟩
  · obtain ⟨k, hk, hlive⟩ := State.holdsLive_iff.mp (h.grade hx)
    exact State.holdsLive_iff.mpr ⟨k, hk, hwritten k (·.health = .live) hlive fun e => hgrade (e ▸ hk) hx⟩
  · obtain ⟨k, hk, hset⟩ := State.isReferenced_iff.mp (h.referenced hx)
    exact State.isReferenced_iff.mpr ⟨k, hk, hwritten k (·.zero.isSome = true) hset fun e => hzero (e ▸ hk) hx⟩
  · obtain ⟨k, hk, hlive⟩ := State.holdsLive_iff.mp (h.slope hx hm)
    exact State.holdsLive_iff.mpr ⟨k, hk, hwritten k (·.health = .live) hlive fun e => hslope (e ▸ hk) hx hm⟩
  · obtain ⟨c', hc', hlive⟩ := h.load hx
    obtain ⟨k, hk, rfl⟩ := Option.map_eq_some_iff.mp hc'
    refine ⟨_, Option.map_eq_some_iff.mpr ⟨k, hk, rfl⟩, ?_⟩
    exact hwritten k (fun c => c.health = .live ∧ c.engaged = true) hlive fun e hold => hload (e ▸ hk) hx hold.1 hold.2

/-- A role is assigned: where the loop needs it, to a channel that serves it. -/
theorem State.Backs.setRole (h : s.Backs x d) {q : Role} {v : Option (Fin 8)}
    (hgrade : q = gradeRole x → d.state = .auto ∨ d.state = .referencing → ∃ n, v = some n ∧ (s.channel n).health = .live)
    (hzero : q = gradeRole x → d.state = .auto → ∃ n, v = some n ∧ (s.channel n).zero.isSome = true)
    (hslope : q = .crossSlope → d.state = .auto → d.mode = .slope → ∃ n, v = some n ∧ (s.channel n).health = .live)
    (hload : q = .drumLoad → d.state ≠ .referencing) : (s.setRole q v).Backs x d := by
  have hget : ∀ r, (s.setRole q v).monitor.roles.get r = if q = r then v else s.monitor.roles.get r := fun r => by
    split
    · rename_i hqr
      subst hqr
      exact Roles.get_set_same _ _ _
    · exact Roles.get_set_ne _ (Ne.symm ‹_›) _
  refine ⟨fun hx => ?_, fun hx => ?_, fun hx hm => ?_, fun hx => ?_⟩
  · rw [State.holdsLive_iff, hget]
    split
    · exact hgrade ‹_› hx
    · exact State.holdsLive_iff.mp (h.grade hx)
  · rw [State.isReferenced_iff, hget]
    split
    · exact hzero ‹_› hx
    · exact State.isReferenced_iff.mp (h.referenced hx)
  · rw [State.holdsLive_iff, hget]
    split
    · exact hslope ‹_› hx hm
    · exact State.holdsLive_iff.mp (h.slope hx hm)
  · unfold State.roleChannel
    rw [hget, if_neg fun e => hload e hx]
    exact h.load hx

/-! ### Channel records and roles under the operations -/

/-- A channel that holds a role is written and the change handed on: a side that needed it LIVE has frozen or failed. -/
theorem State.Backed.setChannel_handOver (h : s.Backed) (hchannels : ChannelsOk s) {n : Fin 8} {c : Channel}
    (hzero : ∀ x, s.monitor.roles.get (gradeRole x) = some n → (s.side x).state = .auto →
      (s.channel n).zero.isSome = true → c.zero.isSome = true) :
    ((s.setChannel n c).handOver n (s.channel n)).Backed := by
  intro x
  have hblocks := (s.setChannel n c).handOver_blocks n (s.channel n)
  refine State.Backs.of_monitor ?_ hblocks.1
  have hside : ∀ y, (s.setChannel n c).side y = s.side y := fun _ => rfl
  cases hheld : s.roleHeld n with
  | none =>
    have hno : ∀ q, s.monitor.roles.get q ≠ some n := State.roleHeld_eq_none.mp hheld
    rw [State.handOver_free (s := s.setChannel n c) hheld]
    exact (h x).setChannel (fun e => absurd e (hno _)) (fun e => absurd e (hno _)) (fun e => absurd e (hno _))
      (fun e => absurd e (hno _))
  | some r =>
    have hrole : ∀ q, s.monitor.roles.get q = some n → r = q := fun q hq => by
      rw [hchannels.roleHeld_iff.mpr hq] at hheld
      exact (Option.some.inj hheld).symm
    rw [(State.handOver_sides (s := s.setChannel n c) hheld _).1, State.sidesAfter_side, State.setChannel_channel_same]
    split
    · exact .of_standing ⟨nofun, nofun⟩
    · split
      · exact .of_standing ⟨nofun, nofun⟩
      · -- The side stands: no channel it needs has left LIVE, nor the drum disengaged.
        rename_i hnotFrozen hnotFailed
        have hlive : ∀ q, s.monitor.roles.get q = some n → (s.channel n).health = .live →
            (s.channel n).leftLive c = false → c.health = .live := fun q _ hold hkept => by
          simpa [Channel.leftLive, hold] using hkept
        simp only [State.FreezesBy, State.FailsBy, hside, not_and, not_or] at hnotFrozen hnotFailed
        refine (h x).setChannel (fun e hx hold => ?_) (hzero x) (fun e ha hm hold => ?_) fun e hr hold hengaged => ?_
        · have hr := hrole _ e
          refine hlive _ e hold (Bool.eq_false_iff.mpr fun hlost => ?_)
          obtain ha | hr' := hx
          · exact (hnotFrozen ha hlost).1 hr
          · exact (hnotFailed hr').1 hlost hr
        · have hr := hrole _ e
          exact hlive _ e hold (Bool.eq_false_iff.mpr fun hlost => (hnotFrozen ha hlost).2 hr hm)
        · have hr' := hrole _ e
          have hkept := (hnotFailed hr).2
          by_cases hlost : (s.channel n).leftLive c = true ∨ (s.channel n).stoppedDrum c = true
          · exact absurd hr' (hkept hlost)
          · obtain ⟨hlost, hidle⟩ := not_or.mp hlost
            refine ⟨hlive _ e hold (Bool.eq_false_iff.mpr hlost), ?_⟩
            simpa [Channel.stoppedDrum, hengaged] using hidle

theorem Side.forall_iff {p : Side → Prop} : (∀ x, p x) ↔ p .left ∧ p .right :=
  ⟨fun h => ⟨h _, h _⟩, fun h x => by cases x <;> simp [h]⟩

/-- A role no side uses is needed by no loop (R80). -/
theorem State.roleInUse_eq_false {q : Role} : s.roleInUse q = false ↔ ∀ x,
    (q = gradeRole x → (s.side x).state ≠ .auto ∧ (s.side x).state ≠ .referencing) ∧
    (q = .crossSlope → (s.side x).state = .auto → (s.side x).mode ≠ .slope) ∧
    (q = .drumLoad → (s.side x).state ≠ .referencing) := by
  rw [Side.forall_iff]
  cases q <;> simp [State.roleInUse, gradeRole, State.side]
  grind

/-- A role no side uses is assigned anew. -/
theorem State.Backed.setRole (h : s.Backed) {q : Role} (hidle : s.roleInUse q = false) (v : Option (Fin 8)) :
    (s.setRole q v).Backed := fun x => by
  obtain ⟨hgrade, hslope, hload⟩ := State.roleInUse_eq_false.mp hidle x
  refine (h x).setRole (fun e hx => ?_) (fun e hx => ?_) (fun e hx hm => ?_) hload
  · exact absurd hx (not_or.mpr (hgrade e))
  · exact absurd hx (hgrade e).1
  · exact absurd hm (hslope e hx)

/-- A channel whose role no side uses is configured (R81). -/
theorem State.Backed.configure (h : s.Backed) (hchannels : ChannelsOk s) {n : Fin 8} {c : Channel}
    (hidle : s.channelInUse n = false) : ((s.setChannel n c).handOver n (s.channel n)).Backed := by
  refine h.setChannel_handOver hchannels fun x hx ha => ?_
  unfold State.channelInUse at hidle
  rw [hchannels.roleHeld_iff.mpr hx] at hidle
  exact absurd ha ((State.roleInUse_eq_false.mp hidle x).1 rfl).1

/-- A channel whose role no side uses is cleared, and the role with it (R82). -/
theorem State.Backed.clear (h : s.Backed) (hchannels : ChannelsOk s) {n : Fin 8} (hidle : s.channelInUse n = false) (c : Channel) :
    ((s.dropRole n).setChannel n c).Backed := by
  have hdropped : (s.dropRole n).Backed := by
    unfold State.channelInUse at hidle
    unfold State.dropRole
    cases hheld : s.roleHeld n with
    | none => exact h
    | some r =>
      rw [hheld] at hidle
      exact h.setRole hidle none
  have hno := State.roleHeld_eq_none.mp (hchannels.dropRole n).2
  exact fun x => (hdropped x).setChannel (fun e => absurd e (hno _)) (fun e => absurd e (hno _))
    (fun e => absurd e (hno _)) (fun e => absurd e (hno _))

/-- A zero reference is set (R91). -/
theorem State.Backed.setZero (h : s.Backed) (n : Fin 8) (d : Int) :
    (s.setChannel n { s.channel n with zero := some d }).Backed := fun x =>
  (h x).setChannel (fun _ _ hold => hold) (fun _ _ _ => rfl) (fun _ _ _ hold => hold) fun _ _ hold he => ⟨hold, he⟩

/-- A grade role moves to a LIVE channel, which is rebased (R87). -/
theorem State.Backed.transferGrade (h : s.Backed) {y : Side} {n : Fin 8} (hlive : (s.channel n).health = .live) :
    (s.transferGrade y n).Backed := by
  have hrebased : (s.rebase y n).Backed := h.setZero n _
  have hmoved : ((s.rebase y n).setRole (gradeRole y) (some n)).Backed := fun x =>
    (hrebased x).setRole (fun _ _ => ⟨n, rfl, by rw [State.rebase, State.setChannel_channel_same]; exact hlive⟩)
      (fun _ _ => ⟨n, rfl, by rw [State.rebase, State.setChannel_channel_same]; rfl⟩)
      (fun e => absurd e (gradeRole_ne y).1) (fun e => absurd e (gradeRole_ne y).2.1)
  have hfollow : ((s.rebase y n).setRole (gradeRole y) (some n)).SidesFollow (s.transferGrade y n) :=
    (State.SidesFollow.restartSettle y).tell _ _
  exact hmoved.follow hfollow (by simp [State.transferGrade, State.tellSensorLost])

theorem State.transferSlope_follow (n : Fin 8) : s.SidesFollow (s.transferSlope n) := by
  have hmoved : s.SidesFollow (s.setRole .crossSlope (some n)) := .of_eq fun _ => rfl
  unfold State.transferSlope
  refine State.SidesFollow.tell ?_ _ _
  split <;> split
  · exact (hmoved.trans (.restartSettle _)).trans (.restartSettle _)
  · exact hmoved.trans (.restartSettle _)
  · exact hmoved.trans (.restartSettle _)
  · exact hmoved

theorem State.transferSlope_monitor (n : Fin 8) : (s.transferSlope n).monitor = (s.setRole .crossSlope (some n)).monitor := by
  unfold State.transferSlope
  dsimp only
  split <;> split <;> simp

theorem State.Backed.transferSlope (h : s.Backed) {n : Fin 8} (hlive : (s.channel n).health = .live) :
    (s.transferSlope n).Backed := by
  have hmoved : (s.setRole .crossSlope (some n)).Backed := fun x =>
    (h x).setRole (fun e => absurd e.symm (gradeRole_ne x).1) (fun e => absurd e.symm (gradeRole_ne x).1)
      (fun _ _ _ => ⟨n, rfl, hlive⟩) (fun e => by cases e)
  have hfollow : (s.setRole .crossSlope (some n)).SidesFollow (s.transferSlope n) := State.transferSlope_follow n
  exact hmoved.follow hfollow (State.transferSlope_monitor n)

/-- The touch writes the zero reference of the referencing side's own channel (R92). -/
theorem State.Backed.sideInterval (h : s.Backed) (hchannels : ChannelsOk s) (x : Side) : (s.sideInterval x).Backed := by
  have hfollow : s.SidesFollow (s.sideInterval x) := .sideInterval x
  by_cases htouch : (s.side x).state = .referencing ∧ s.judge x = .touch
  · have heq : s.sideInterval x = s.touch x := by
      simp only [State.sideInterval, htouch.1, State.referencingInterval, htouch.2]
    rw [heq] at hfollow ⊢
    have hzero : (s.zeroAtTouch x).Backed := by
      unfold State.zeroAtTouch
      cases hn : s.monitor.roles.get (gradeRole x) with
      | none => exact h
      | some n =>
        refine fun y => (h y).setChannel (fun _ _ hold => hold) (fun e ha => ?_) (fun _ _ _ hold => hold)
          fun _ _ hold he => ⟨hold, he⟩
        obtain ⟨-, -, -, hone⟩ := channelsOk_iff.mp hchannels
        have hyx : y = x := gradeRole_inj.mp (hone _ _ n e hn)
        subst hyx
        exact absurd (ha.symm.trans htouch.1) (by decide)
    have hdown : (s.zeroAtTouch x).SidesFollow (s.touch x) :=
      (State.SidesFollow.standDown x (dest := .manual) 0 (by decide)).trans (.of_eq fun _ => rfl)
    exact hzero.follow hdown (by simp [State.touch])
  · refine h.follow hfollow ?_
    unfold State.sideInterval
    cases hstate : (s.side x).state with
    | idle | frozen => rfl
    | manual =>
      dsimp only
      split <;> simp
    | referencing =>
      dsimp only [State.referencingInterval]
      split
      · exact absurd ⟨hstate, ‹_›⟩ htouch
      · simp
      · simp
    | auto => simp

end

end Sys2Proof.Machine
end

section
/-! Every effect keeps the laws that tie the sides to their channels, to governance and to each other; with the loops'
own law, the laws of the channels, the sides, the demands and the targets (O58). -/
namespace Sys2Proof.Machine

section
variable {s t : State}

/-! ### The target source and governance (R48, R55, R56) -/

/-- A side in AUTO follows the plan exactly while a zone governs. -/
def State.Sourced (s : State) : Prop := ∀ x, (s.side x).state = .auto →
  ((s.side x).context.source = .plan ↔ s.plan.governing.isSome = true)

theorem State.Sourced.follow (h : s.Sourced) (hfollow : s.SidesFollow t) (hgov : t.plan.governing = s.plan.governing) :
    t.Sourced := fun x hx => by
  obtain ⟨hauto, hsource⟩ := (hfollow x).2.1 hx
  rw [hsource, hgov]
  exact h x hauto

theorem State.takeGovernance_sourced (z : Zone) : (s.takeGovernance z).Sourced := fun x hx => by
  have hauto := (State.takeGovernance_keepsRun s x z).1.symm.trans hx
  have hauto' : ((s.governedBy z).side x).state = .auto := by rw [State.governedBy_side]; exact hauto
  rw [State.takeGovernance_governing, State.takeGovernance_side, State.captureSide_side, if_pos hauto']
  simp

theorem State.loseGovernance_sourced : s.loseGovernance.Sourced := fun x hx => by
  have hauto := (State.loseGovernance_keepsRun s x).1.symm.trans hx
  rw [State.loseGovernance_governing, State.loseGovernance_side, State.releaseSide_side, if_pos hauto]
  simp

theorem State.Sourced.reevaluate (h : s.Sourced) (amended : Option Nat) : (s.reevaluate amended).Sourced := by
  obtain ⟨heq, -⟩ | ⟨z, -, heq⟩ | ⟨-, -, heq⟩ := State.reevaluate_cases amended s <;> rw [heq]
  · exact h
  · exact State.takeGovernance_sourced z
  · exact State.loseGovernance_sourced

theorem State.Sourced.tell (h : s.Sourced) (n : Notice) (b : Bool) : (s.tellCause n b).Sourced :=
  h.follow (.of_eq fun x => by simp) (by simp)

theorem State.Sourced.stationChanged (h : s.Sourced) (c : StationCounter) :
    (({ s with station := c } : State).stationChanged s.station).Sourced := by
  obtain ⟨-, -, heq⟩ | ⟨-, heq⟩ := State.stationChanged_cases s.station { s with station := c } <;> rw [heq]
  · exact h
  · refine State.Sourced.tell (State.Sourced.reevaluate ?_ none) _ _
    exact h

/-- A governing number names a zone of the table. -/
theorem GovernanceOk.governingZone (h : GovernanceOk s) :
    (s.station.valid && s.governingZone.isSome) = s.plan.governing.isSome := by
  unfold GovernanceOk at h
  unfold State.governingZone
  cases hgov : s.plan.governing with
  | none => simp
  | some n =>
    rw [hgov] at h
    obtain ⟨z, hz, hn, hforce⟩ := h
    have hfound : (s.findZone n).isSome = true := by
      rw [State.findZone, List.find?_isSome]
      exact ⟨z, hz, by simpa using hn⟩
    simp [hforce.1, hfound]

theorem State.Sourced.enterAuto (h : s.Sourced) (hgov : GovernanceOk s) (x : Side) : (s.enterAuto x).Sourced := by
  have hgoverning : (s.enterAuto x).plan.governing = s.plan.governing := by simp
  intro y hy
  rw [hgoverning]
  obtain rfl | rfl := Side.eq_or_eq_other x y
  · rw [State.enterAuto_side]
    dsimp only [State.entryContext]
    rw [GovernanceOk.governingZone hgov]
    split
    · simp [*]
    · simp [*]
  · rw [State.enterAuto_other] at hy ⊢
    exact h _ hy

/-! ### The states and modes under every effect -/

theorem State.SidesFollow.setChannel_handOver (n : Fin 8) (c : Channel) (before : Channel) :
    s.SidesFollow ((s.setChannel n c).handOver n before) :=
  (State.SidesFollow.of_eq fun _ => rfl).trans (.handOver n before)

theorem State.SidesFollow.takeReading (r : Reading) : s.SidesFollow (s.takeReading r) := by
  obtain heq | ⟨n, g, -, heq⟩ := State.takeReading_cases r s <;> rw [heq]
  · exact .of_eq fun _ => rfl
  · exact .setChannel_handOver _ _ _

theorem State.SidesFollow.expireFreshness (n : Fin 8) : s.SidesFollow (s.expireFreshness n) := by
  unfold State.expireFreshness
  dsimp only
  split
  · exact .setChannel_handOver _ _ _
  · exact .of_eq fun _ => rfl

theorem State.SidesFollow.transfer (q : Role) (n : Fin 8) : s.SidesFollow (s.transfer q n) := by
  have grade : ∀ x, s.SidesFollow (s.transferGrade x n) := fun x => by
    have hmoved : s.SidesFollow ((s.rebase x n).setRole (gradeRole x) (some n)) := .of_eq fun _ => rfl
    exact (hmoved.trans (.restartSettle x)).tell _ _
  cases q with
  | leftGrade => exact grade .left
  | rightGrade => exact grade .right
  | crossSlope => exact State.transferSlope_follow n
  | drumLoad | beltPressure => exact .of_eq fun _ => rfl

theorem State.storeZone_side (z : Zone) (zs : List Zone) (x : Side) : (s.storeZone z zs).side x = s.side x := by
  unfold State.storeZone
  dsimp only
  split <;> rfl

theorem State.storeZone_governing (z : Zone) (zs : List Zone) : (s.storeZone z zs).plan.governing = s.plan.governing := by
  rw [State.storeZone_zones]

/-- Governance is re-evaluated on a changed plan. -/
theorem State.replanned {u : State} (hside : ∀ x, u.side x = s.side x) (hmonitor : u.monitor = s.monitor)
    (hgov : u.plan.governing = s.plan.governing) (amended : Option Nat) : (∀ x, KeepsRun s (u.reevaluate amended) x) ∧
      (u.reevaluate amended).monitor = s.monitor ∧ (s.Sourced → (u.reevaluate amended).Sourced) := by
  refine ⟨fun x => ?_, by rw [State.reevaluate_monitor, hmonitor], fun hs => ?_⟩
  · have := State.reevaluate_keepsRun u x amended
    rwa [KeepsRun, hside] at this
  · exact State.Sourced.reevaluate (hs.follow (.of_eq hside) hgov) amended

/-- What an effect does to the states of the sides: no side enters AUTO or REFERENCING, or governance was
re-evaluated, or one side was engaged, began referencing or had its mode set. -/
theorem Effect.sides_cases {i : Instr} (h : Effect s i t) :
    (s.SidesFollow t ∧ t.plan.governing = s.plan.governing) ∨
    ((∀ x, KeepsRun s t x) ∧ t.monitor = s.monitor ∧ (s.Sourced → t.Sourced)) ∨
    (∃ x r, i = .engage r ∧ sideOf (fieldAt (payloadOf 1 r) 0 1) = some x ∧ t = s.enterAuto x ∧
      s.isReferenced x = true ∧ s.roleLive (gradeRole x) = true ∧
      ((s.side x).mode = .slope → s.roleLive .crossSlope = true)) ∨
    (∃ x, t = s.startReferencing x ∧ s.roleLive (gradeRole x) = true ∧ s.drumTurning = true) ∨
    (∃ x m, t = s.setSide x { s.side x with mode := m } ∧ (s.side x).state ≠ .auto ∧ (s.side x).state ≠ .referencing ∧
      (m = .slope → (s.side (otherSide x)).mode ≠ .slope)) := by
  cases h with
  | zoneStored | zoneAmended =>
    exact .inr (.inl (State.replanned (State.storeZone_side _ _) (by simp) (State.storeZone_governing _ _) _))
  | zoneSuspended | zoneReinstated | zoneRetired | planCleared =>
    refine .inr (.inl (State.replanned (fun _ => ?_) ?_ ?_ _)) <;> rfl
  | stationFixed | counted =>
    exact .inr (.inl ⟨State.stationChanged_keepsRun s _, State.stationChanged_monitor _ _, fun hs => hs.stationChanged _⟩)
  | @engaged r x hx _ href hgrade hslope => exact .inr (.inr (.inl ⟨x, r, rfl, hx, rfl, href, hgrade, hslope⟩))
  | @referenceBegun _ x _ _ hgrade hload => exact .inr (.inr (.inr (.inl ⟨x, rfl, hgrade, hload⟩)))
  | @modeSet _ x m hstate hother => exact .inr (.inr (.inr (.inr ⟨x, m, rfl, hstate.1, hstate.2, hother⟩)))
  | channelConfigured => exact .inl ⟨(State.SidesFollow.setChannel_handOver _ _ _).tell _ _, by simp⟩
  | channelCleared =>
    refine .inl ⟨.of_eq fun x => ?_, ?_⟩
    · rw [State.tellSensorLost, State.tellCause_side, State.setChannel_side]
      unfold State.dropRole
      split <;> rfl
    · simp
  | roleTransferred => exact .inl ⟨.transfer _ _, by simp⟩
  | readingTaken => exact .inl ⟨.takeReading _, by simp⟩
  | freshnessExpired => exact .inl ⟨.expireFreshness _, by simp⟩
  | disengaged => exact .inl ⟨.disengageSide _, by simp⟩
  | jogged =>
    exact .inl ⟨(State.SidesFollow.toManual _).trans (.setSide rfl (.inl ⟨rfl, rfl⟩)), by simp⟩
  | trimSet => exact .inl ⟨.setSide rfl (.inl ⟨rfl, rfl⟩), by simp⟩
  | sideIntervalEnded | dwellEnded =>
    exact .inl ⟨(State.SidesFollow.sideInterval _).trans (.nextSidePeriod _), by simp⟩
  | leaseExpired => exact .inl ⟨.expireLease _, by simp⟩
  | bankStored => exact .inl ⟨.storeBank _ _, by rw [State.storeBank_plan]⟩
  | malformedAnswered hu =>
    obtain ⟨hplan, -, -, hleft, hright, -⟩ := State.takeFrame_keepsBlocks hu
    exact .inl ⟨.of_eq fun x => by cases x <;> assumption, congrArg PlanStore.governing hplan⟩
  | _ => exact .inl ⟨.of_eq fun x => by cases x <;> simp [State.side], by simp⟩

/-! ### The laws of the sides under every effect -/

/-- The sides are never both in SLOPE mode (R107). -/
def State.OneSlope (s : State) : Prop := ¬(s.left.mode = .slope ∧ s.right.mode = .slope)

theorem State.oneSlope_iff : s.OneSlope ↔ ∀ x, (s.side x).mode = .slope → (s.side (otherSide x)).mode ≠ .slope := by
  rw [Side.forall_iff, State.OneSlope]
  simp only [State.side, otherSide]
  exact ⟨fun h => ⟨fun hl hr => h ⟨hl, hr⟩, fun hr hl => h ⟨hl, hr⟩⟩, fun h hboth => h.1 hboth.1 hboth.2⟩

theorem State.OneSlope.of_modes (h : s.OneSlope) (hmode : ∀ x, (t.side x).mode = (s.side x).mode) : t.OneSlope := by
  rw [State.oneSlope_iff] at h ⊢
  simpa only [hmode] using h

theorem State.startReferencing_side (x : Side) : (s.startReferencing x).side x = { s.side x with
    state := .referencing, lease := none
    referencing := some ⟨((s.roleChannel .drumLoad).bind Channel.value).getD 0,
      ((s.roleChannel (gradeRole x)).bind Channel.value).getD 0⟩ } := by
  rw [State.startReferencing, State.setSide_side_same]

theorem State.startReferencing_other (x : Side) :
    (s.startReferencing x).side (otherSide x) = s.side (otherSide x) := by
  rw [State.startReferencing, State.setSide_side_other]

theorem Effect.keepsOneSlope {i : Instr} (h : Effect s i t) (hs : s.OneSlope) : t.OneSlope := by
  obtain ⟨hfollow, -⟩ | ⟨hrun, -⟩ | ⟨x, -, -, -, rfl, -⟩ | ⟨x, rfl, -⟩ | ⟨x, m, rfl, -, -, hother⟩ := h.sides_cases
  · exact hs.of_modes fun x => (hfollow x).1
  · exact hs.of_modes fun x => (hrun x).2.1
  · refine hs.of_modes fun y => ?_
    obtain rfl | rfl := Side.eq_or_eq_other x y
    · rw [State.enterAuto_side]
    · rw [State.enterAuto_other]
  · refine hs.of_modes fun y => ?_
    obtain rfl | rfl := Side.eq_or_eq_other x y
    · rw [State.startReferencing_side]
    · rw [State.startReferencing_other]
  · rw [State.oneSlope_iff] at hs ⊢
    intro y
    obtain rfl | rfl := Side.eq_or_eq_other x y
    · rw [State.setSide_side_same, State.setSide_side_other]
      exact hother
    · rw [otherSide_otherSide, State.setSide_side_same, State.setSide_side_other]
      exact fun hy hm => hother hm hy

theorem Effect.keepsSourced {i : Instr} (h : Effect s i t) (hs : s.Sourced) (hgov : GovernanceOk s) : t.Sourced := by
  obtain ⟨hfollow, hgoverning⟩ | ⟨-, -, hsourced⟩ | ⟨x, -, -, -, rfl, -⟩ | ⟨x, rfl, -⟩ | ⟨x, m, rfl, hauto, -⟩ := h.sides_cases
  · exact hs.follow hfollow hgoverning
  · exact hsourced hs
  · exact hs.enterAuto hgov x
  · intro y hy
    have hgoverning : (s.startReferencing x).plan.governing = s.plan.governing := by simp
    rw [hgoverning]
    obtain rfl | rfl := Side.eq_or_eq_other x y
    · rw [State.startReferencing_side] at hy
      cases hy
    · rw [State.startReferencing_other] at hy ⊢
      exact hs _ hy
  · intro y hy
    rw [State.setSide_plan]
    obtain rfl | rfl := Side.eq_or_eq_other x y
    · rw [State.setSide_side_same] at hy
      exact absurd hy hauto
    · rw [State.setSide_side_other] at hy ⊢
      exact hs _ hy

theorem State.roleLive_iff {r : Role} : s.roleLive r = true ↔ s.holdsLive r := by
  unfold State.roleLive State.holdsLive
  cases s.roleChannel r <;> simp

theorem State.drumTurning_iff : s.drumTurning = true ↔ ∃ c ∈ s.roleChannel .drumLoad, c.health = .live ∧ c.engaged = true := by
  unfold State.drumTurning
  cases s.roleChannel .drumLoad <;> simp

/-- Where no channel record and no role is written, the sides are backed as they were, or the tests of ENGAGE and
REFERENCE have found what the side needs. -/
theorem Effect.keepsBacked_of_monitor {i : Instr} (h : Effect s i t) (hs : s.Backed) (hmonitor : t.monitor = s.monitor) :
    t.Backed := by
  obtain ⟨hfollow, -⟩ | ⟨hrun, -⟩ | ⟨x, -, -, -, rfl, href, hgrade, hslope⟩ | ⟨x, rfl, hgrade, hload⟩ |
    ⟨x, m, rfl, hauto, href, -⟩ := h.sides_cases
  · exact hs.follow hfollow hmonitor
  · refine fun x => ((hs x).mono ?_ ?_ ?_).of_monitor hmonitor
    · exact (hrun x).2.1
    · rw [(hrun x).1]
      exact id
    · rw [(hrun x).1]
      exact id
  · refine hs.write x ?_ (State.enterAuto_other x s) hmonitor
    rw [State.enterAuto_side]
    exact ⟨fun _ => State.roleLive_iff.mp hgrade, fun _ => href, fun _ hm => State.roleLive_iff.mp (hslope hm), nofun⟩
  · refine hs.write x ?_ (State.startReferencing_other x) hmonitor
    rw [State.startReferencing_side]
    exact ⟨fun _ => State.roleLive_iff.mp hgrade, nofun, nofun, fun _ => State.drumTurning_iff.mp hload⟩
  · refine hs.write x (.of_standing ?_) (by simp) hmonitor
    rw [State.setSide_side_same]
    exact ⟨hauto, href⟩

theorem State.Backed.tell (h : s.Backed) (n : Notice) (b : Bool) : (s.tellCause n b).Backed :=
  h.follow (.of_eq fun x => by simp) (by simp)

theorem Effect.keepsBacked {i : Instr} (h : Effect s i t) (hs : s.Backed) (hchannels : ChannelsOk s) : t.Backed := by
  have hkept := h.keepsBacked_of_monitor hs
  cases h with
  | channelConfigured _ hidle => exact (hs.configure hchannels hidle).tell _ _
  | channelCleared hidle => exact (hs.clear hchannels hidle _).tell _ _
  | roleAssigned _ hidle => exact (hs.setRole hidle _).tell _ _
  | @roleTransferred _ q n _ _ huse _ hlive =>
    cases q with
    | leftGrade => exact hs.transferGrade (y := .left) hlive
    | rightGrade => exact hs.transferGrade (y := .right) hlive
    | crossSlope => exact hs.transferSlope hlive
    | drumLoad | beltPressure => exact hs
  | zeroSet => exact hs.setZero _ _
  | readingTaken =>
    obtain heq | ⟨n, g, -, heq⟩ := State.takeReading_cases _ s <;> rw [heq]
    · exact hs
    · refine hs.setChannel_handOver hchannels fun _ _ _ hz => ?_
      unfold Channel.afterReading
      dsimp only
      split <;> exact hz
  | freshnessExpired =>
    unfold State.expireFreshness
    dsimp only
    split
    · exact hs.setChannel_handOver hchannels fun _ _ _ hz => hz
    · exact hs
  | @sideIntervalEnded x | @dwellEnded x =>
    refine (hs.sideInterval hchannels x).follow (.nextSidePeriod x) (by simp)
  | malformedAnswered hu =>
    obtain ⟨-, -, hmonitor, -⟩ := State.takeFrame_keepsBlocks hu
    exact hkept hmonitor
  | _ => exact hkept (by simp)

/-! ### The banks (R122, R127) -/

/-- Both banks keep their ranges. -/
def State.BanksOk (s : State) : Prop := s.banks.soft.inRange = true ∧ s.banks.hard.inRange = true

theorem State.BanksOk.of_eq (h : s.BanksOk) (hsoft : t.banks.soft = s.banks.soft) (hhard : t.banks.hard = s.banks.hard) :
    t.BanksOk := by
  unfold State.BanksOk
  rwa [hsoft, hhard]

theorem State.takeGovernance_banks (z : Zone) :
    (s.takeGovernance z).banks = { s.banks with active := bankOfClass z.fields.material } := by
  have hclass : (s.governedBy z).banks = { s.banks with active := bankOfClass z.fields.material } := by
    unfold State.governedBy State.handClass
    split
    · rename_i hsame
      rw [← hsame]
      rfl
    · rfl
  rw [← hclass, State.takeGovernance, State.tellPlanGap, State.tellCause_banks, State.captureSide_banks,
    State.captureSide_banks]
  rfl

theorem State.BanksOk.reevaluate (h : s.BanksOk) (amended : Option Nat) : (s.reevaluate amended).BanksOk := by
  obtain ⟨heq, -⟩ | ⟨z, -, heq⟩ | ⟨-, -, heq⟩ := State.reevaluate_cases amended s <;> rw [heq]
  · exact h
  · exact h.of_eq (by rw [State.takeGovernance_banks]) (by rw [State.takeGovernance_banks])
  · exact h.of_eq (by simp) (by simp)

theorem State.BanksOk.stationChanged (h : s.BanksOk) (c : StationCounter) :
    (({ s with station := c } : State).stationChanged s.station).BanksOk := by
  obtain ⟨-, -, heq⟩ | ⟨-, heq⟩ := State.stationChanged_cases s.station { s with station := c } <;> rw [heq]
  · exact h
  · have hreevaluated : (State.reevaluate none _).BanksOk := State.BanksOk.reevaluate (s := { s with
      station := c, plan.marks := if (s.station.valid && !c.valid) = true then s.plan.marks.map Mark.forgetPosition
        else s.plan.marks }) h none
    exact hreevaluated.of_eq (by simp [State.tellStationInvalid]) (by simp [State.tellStationInvalid])

theorem Effect.keepsBanks {i : Instr} (h : Effect s i t) (hs : s.BanksOk) : t.BanksOk := by
  cases h with
  | zoneStored | zoneAmended =>
    refine State.BanksOk.reevaluate (hs.of_eq ?_ ?_) _ <;>
    · unfold State.storeZone
      dsimp only
      split <;> rfl
  | zoneSuspended | zoneReinstated | zoneRetired | planCleared =>
    refine State.BanksOk.reevaluate ?_ _
    exact hs
  | stationFixed | counted => exact hs.stationChanged _
  | @bankStored _ n b hb =>
    unfold State.storeBank
    cases n <;> split <;> exact ⟨by simp_all [State.BanksOk, State.setBank], by simp_all [State.BanksOk, State.setBank]⟩
  | malformedAnswered hu =>
    obtain ⟨-, -, -, -, -, hbanks, -⟩ := State.takeFrame_keepsBlocks hu
    exact hs.of_eq (congrArg BankStore.soft hbanks) (congrArg BankStore.hard hbanks)
  | _ => exact hs.of_eq (by simp) (by simp)

/-! ### O58 -/

/-- The laws of the sides, the demands and the targets are those of the two loops, of what backs them, of their
source, of their modes and of the banks. -/
theorem sideLaws_iff : SidesOk s ∧ DemandsOk s ∧ TargetsOk s ↔
    s.SidesLawful ∧ s.Backed ∧ s.Sourced ∧ s.OneSlope ∧ s.BanksOk := by
  constructor
  · rintro ⟨⟨hleft, hright, hone⟩, ⟨hsoft, hhard, hdleft, hdright⟩, htleft, htright⟩
    have hside : ∀ x, s.sideOk x := Side.forall_iff.mpr ⟨hleft, hright⟩
    have hdemand : ∀ x, s.demandOk x := Side.forall_iff.mpr ⟨hdleft, hdright⟩
    have htarget : ∀ x, s.contextOk x := Side.forall_iff.mpr ⟨htleft, htright⟩
    refine ⟨fun x => ?_, fun x => ?_, fun x => ?_, hone, hsoft, hhard⟩
    · obtain ⟨-, -, href, hlease, hsettle, hoverride, hoffer, -⟩ := hside x
      obtain ⟨hstanding, hreleased, hraised, hlowered, htrimLow, htrimHigh, hremaining⟩ := hdemand x
      exact ⟨href, hlease, hsettle, hoverride, hoffer, hstanding, hreleased, hraised, hlowered, ⟨htrimLow, htrimHigh⟩,
        hremaining, State.contextOk_iff.mp (htarget x)⟩
    · obtain ⟨hauto, href, -⟩ := hside x
      exact ⟨fun hx => hx.elim (fun ha => (hauto ha).1) fun hr => (href hr).1, fun ha => (hauto ha).2.1,
        fun ha => (hauto ha).2.2, fun hr => (href hr).2⟩
    · obtain ⟨-, -, -, -, -, -, -, hsource⟩ := hside x
      exact hsource
  · rintro ⟨hloops, hbacked, hsourced, hone, hsoft, hhard⟩
    have hside : ∀ x, s.sideOk x := fun x => by
      have hl := hloops x
      have hb := hbacked x
      exact ⟨fun ha => ⟨hb.grade (.inl ha), hb.referenced ha, hb.slope ha⟩, fun hr => ⟨hb.grade (.inr hr), hb.load hr⟩,
        hl.referencing, hl.lease, hl.settle, hl.override, hl.offer, hsourced x⟩
    have hdemand : ∀ x, s.demandOk x := fun x => by
      have hl := hloops x
      exact ⟨hl.standing, hl.released, hl.raised, hl.lowered, hl.trim.1, hl.trim.2, hl.remaining⟩
    have htarget : ∀ x, s.contextOk x := fun x => State.contextOk_iff.mpr (hloops x).context
    exact ⟨⟨hside _, hside _, hone⟩, ⟨hsoft, hhard, hdemand _, hdemand _⟩, htarget _, htarget _⟩

end

/-- The laws that stand through every step together: those of the sides, and those of the plan and the station that
they lean on. -/
structure State.SideLaws (s : State) : Prop where
  grounded : s.Grounded
  governance : GovernanceOk s
  loops : s.SidesLawful
  backed : s.Backed
  sourced : s.Sourced
  oneSlope : s.OneSlope
  banks : s.BanksOk

section
variable {s t : State}

/-- The laws read the plan's zones and number, the station, the channels, the sides and the banks. -/
theorem State.SideLaws.of_eq (h : s.SideLaws) (hzones : t.plan.zones = s.plan.zones)
    (hgov : t.plan.governing = s.plan.governing) (hstation : t.station = s.station) (hmonitor : t.monitor = s.monitor)
    (hside : ∀ x, t.side x = s.side x) (hbanks : t.banks = s.banks) : t.SideLaws where
  grounded := h.grounded.of_eq hzones hstation hmonitor
  governance := h.governance.of_eq hzones hgov (by rw [hstation]) (by rw [hstation])
  loops := h.loops.of_eq hside hbanks (by rw [hstation])
  backed := h.backed.follow (.of_eq hside) hmonitor
  sourced := h.sourced.follow (.of_eq hside) hgov
  oneSlope := h.oneSlope.of_modes fun x => by rw [hside]
  banks := h.banks.of_eq (by rw [hbanks]) (by rw [hbanks])

theorem State.SideLaws.lessMs (h : s.SideLaws) : s.lessMs.SideLaws := by
  obtain ⟨hok, haddr, hrole, hone⟩ := channelsOk_iff.mp h.grounded.channels
  have hfollow : s.SidesFollow s.lessMs := fun x => by
    rw [State.lessMs_side]
    exact ⟨rfl, fun ha => ⟨ha, rfl⟩, id⟩
  have hconfig : ∀ n, (s.lessMs.channel n).config = (s.channel n).config := fun n => by rw [State.lessMs_channel]
  have hroles : s.lessMs.monitor.roles = s.monitor.roles := rfl
  refine ⟨⟨h.grounded.zones, h.grounded.station, channelsOk_iff.mpr ⟨fun n => ?_, ?_, ?_, hone⟩⟩, h.governance, fun x => ?_,
    fun x => ?_, h.sourced.follow hfollow rfl, h.oneSlope.of_modes fun x => (hfollow x).1, h.banks⟩
  · rw [State.lessMs_channel]
    exact (hok n).lessMs
  · simpa only [State.addressesDistinct, hconfig] using haddr
  · simpa only [State.roleOk, hconfig, hroles] using hrole
  · rw [State.lessMs_side]
    exact (h.loops x).passMs
  · have hx := h.backed x
    refine State.Backs.mono (d := s.side x) ?_ (hfollow x).1 (fun ha => ((hfollow x).2.1 ha).1) (hfollow x).2.2
    refine ⟨fun ha => ?_, fun ha => ?_, fun ha hm => ?_, fun hr => ?_⟩
    · simpa only [State.holdsLive_iff, State.lessMs_channel, hroles] using State.holdsLive_iff.mp (hx.grade ha)
    · simpa only [State.isReferenced_iff, State.lessMs_channel, hroles] using State.isReferenced_iff.mp (hx.referenced ha)
    · simpa only [State.holdsLive_iff, State.lessMs_channel, hroles] using State.holdsLive_iff.mp (hx.slope ha hm)
    · obtain ⟨c, hc, hlive⟩ := hx.load hr
      obtain ⟨n, hn, rfl⟩ := Option.map_eq_some_iff.mp hc
      exact ⟨_, Option.map_eq_some_iff.mpr ⟨n, hn, rfl⟩, by rw [State.lessMs_channel]; exact hlive⟩

theorem State.SideLaws.effect (h : s.SideLaws) {i : Instr} (heffect : Effect s i t) : t.SideLaws where
  grounded := ⟨heffect.keepsZones h.grounded.zones, heffect.keepsStation h.grounded.station,
    heffect.keepsChannels h.grounded.channels⟩
  governance := heffect.keepsGovernance h.governance
  loops := heffect.keepsLoops h.loops h.grounded
  backed := heffect.keepsBacked h.backed h.grounded.channels
  sourced := heffect.keepsSourced h.sourced h.governance
  oneSlope := heffect.keepsOneSlope h.oneSlope
  banks := heffect.keepsBanks h.banks

/-- Sides that are all IDLE need no channel and follow no plan. -/
theorem State.idle_laws (h : ∀ x, (s.side x).state = .idle) : s.Backed ∧ s.Sourced :=
  ⟨fun x => .of_standing ⟨by simp [h x], by simp [h x]⟩, fun x hx => by simp [h x] at hx⟩

theorem State.SideLaws.reset (h : s.SideLaws) {i : Instr} (hreset : ResetEffect s i t) : t.SideLaws := by
  have hstation := hreset.keepsStation h.grounded.station
  have hchannels := hreset.keepsChannels h.grounded.channels
  cases hreset with
  | asserted | restarted => exact h.of_eq rfl rfl rfl rfl (fun _ => rfl) rfl
  | @coldReleased a b ea eb =>
    have hside : ∀ x, (coldState a b ea eb s).side x = resetSide := fun x => by cases x <;> simp [State.side]
    obtain ⟨hzones, -, hgov⟩ := resetPlan_ok (s := coldState a b ea eb s) (by simp)
    obtain ⟨hbacked, hsourced⟩ := State.idle_laws (s := coldState a b ea eb s) fun x => by rw [hside]; rfl
    refine ⟨⟨hzones, hstation, hchannels⟩, hgov, fun x => ?_, hbacked, hsourced, ?_, ?_⟩
    · rw [hside]
      exact resetSide_lawful _ _
    · simp [State.OneSlope, resetSide]
    · rw [State.BanksOk, (coldState_blocks a b ea eb s).2.2.2.2.2.1]
      decide
  | @warmReleased ea eb =>
    have hside : ∀ x, (warmState ea eb s).side x = (s.side x).warm := fun x => by
      cases x <;> simp [State.side, State.warmBlocks]
    have hbanks : (warmState ea eb s).banks = s.banks := by simp
    have hclass : (warmState ea eb s).station.drumClass = s.station.drumClass := by simp [State.warmBlocks]
    obtain ⟨hbacked, hsourced⟩ := State.idle_laws (s := warmState ea eb s) fun x => by rw [hside]; rfl
    refine ⟨⟨h.grounded.zones.of_eq (by simp [State.warmBlocks]) hclass, hstation, hchannels⟩, warmState_governanceOk s ea eb,
      fun x => ?_, hbacked, hsourced, h.oneSlope.of_modes fun x => ?_, h.banks.of_eq (by rw [hbanks]) (by rw [hbanks])⟩
    · rw [hside, State.activeBank_congr hbanks, State.maxDepth_congr hclass]
      exact (h.loops x).warm
    · rw [hside]
      rfl

end

theorem sideLaws_standThrough : StandsThrough State.SideLaws where
  pending _ _ h := h.of_eq rfl rfl rfl rfl (fun _ => rfl) rfl
  ms _ _ h := h.lessMs
  take s u f _ h htake := by
    obtain ⟨hplan, hstation, hmonitor, hleft, hright, hbanks, -⟩ := State.takeFrame_keepsBlocks htake
    exact h.of_eq (by rw [hplan]) (by rw [hplan]) hstation hmonitor (fun x => by cases x <;> assumption) hbanks
  effect _ _ _ _ h heffect := h.effect heffect
  respond _ _ _ _ _ _ h := h.of_eq rfl rfl rfl rfl (fun _ => rfl) rfl
  reset _ _ _ h hreset := h.reset hreset

/-- Settles O58: the laws of the sides stand through every effect with those of the plan and the station. -/
theorem stepsKeepTheSidesInTheirLaws : Obligations.StepsKeepTheSidesInTheirLaws := by
  intro s t hinv hstep
  obtain ⟨hloops, hbacked, hsourced, hone, hbanks⟩ := sideLaws_iff.mp ⟨hinv.sides, hinv.demands, hinv.targets⟩
  have ht := sideLaws_standThrough.step
    ⟨⟨hinv.zones, hinv.station, hinv.channels⟩, hinv.governance, hloops, hbacked, hsourced, hone, hbanks⟩ hstep
  exact ⟨ht.grounded.channels, sideLaws_iff.mpr ⟨ht.loops, ht.backed, ht.sourced, ht.oneSlope, ht.banks⟩⟩

end Sys2Proof.Machine
end

section
/-! The step and the turn of a request (O1, O8); the requests on zones and marks, with re-evaluation (O9 to O13, O15). -/
namespace Sys2Proof.Machine

/-! ### What a served request answers -/

section
variable {s : State} {i : Instr} {row : RequestRow} {r : Request}

/-- The owning block refuses. -/
theorem exec_refused (h : s.serves i row r) {v : Status}
    (hact : requestAct i (r.body.take row.size) s.popped = refuse v s.popped) : exec i s = .next (s.refuses row r v) := by
  rw [exec_served h, hact]
  rfl

/-- The owning block answers DONE with a payload. -/
theorem exec_done (h : s.serves i row r) {t : State} {p : List Byte}
    (hact : requestAct i (r.body.take row.size) s.popped = (t, doneWith p)) :
    exec i s = .next (t.answers row r .done p) := by
  rw [exec_served h, hact]
  rfl

/-- The owning block answers DONE with no payload. -/
theorem exec_taken (h : s.serves i row r) {t : State}
    (hact : requestAct i (r.body.take row.size) s.popped = taken t) : exec i s = .next (t.answers row r .done []) := by
  rw [exec_served h, hact]
  rfl

end

/-- Settles O1. -/
theorem stepRunsFrontCommand : Obligations.StepRunsFrontCommand := fun _ _ _ => rfl

/-- A frame that cannot be taken now. -/
theorem State.takeFrame_eq_none {s : State} {f : Frame} (h : s.heldReset ≠ none ∨ s.link.response ≠ none ∨
    s.link.restartTaken = true ∨ ∃ g rest, s.link.queue = g :: rest ∧ g ≠ f) : s.takeFrame f = none := by
  unfold State.takeFrame
  split
  · rename_i hmay
    obtain ⟨hheld, hresponse, hrestart⟩ := State.mayTake_iff.mp hmay
    obtain h | h | h | ⟨g, rest, hq, hne⟩ := h
    · exact absurd hheld h
    · exact absurd hresponse h
    · rw [hrestart] at h
      cases h
    · rw [hq]
      exact if_neg hne
  · rfl

theorem State.consoleHeard_blocks (s : State) : s.consoleHeard.link.queue = s.link.queue ∧
    s.consoleHeard.link.response = s.link.response ∧ s.consoleHeard.link.restartTaken = s.link.restartTaken ∧
    s.consoleHeard.heldReset = s.heldReset := by
  rw [State.consoleHeard_link]
  refine ⟨rfl, rfl, rfl, ?_⟩
  simp [State.consoleHeard, State.tellLinkLost]

theorem State.heard_blocks (q : Requester) (s : State) : (s.heard q).link.queue = s.link.queue ∧
    (s.heard q).link.response = s.link.response ∧ (s.heard q).link.restartTaken = s.link.restartTaken ∧
    (s.heard q).heldReset = s.heldReset := by
  unfold State.heard
  split
  · exact s.consoleHeard_blocks
  · exact ⟨rfl, rfl, rfl, rfl⟩

/-- A frame on an empty queue is taken as it arrives. -/
theorem State.takeFrame_empty {s : State} {f : Frame} (hmay : s.mayTake = true) (hqueue : s.link.queue = []) :
    s.takeFrame f = some (s.heard f.requester) := by
  rw [State.takeFrame, if_pos hmay, hqueue]

theorem State.takeFrame_arrive {s : State} {f : Frame} (hmay : s.mayTake = true) (hqueue : s.link.queue = []) :
    (s.arrive f).takeFrame f = some (s.heard f.requester) := by
  obtain ⟨hq, hresponse, hrestart, hheld⟩ := State.heard_blocks f.requester s
  have hjoined : s.arrive f = { s.heard f.requester with link := { (s.heard f.requester).link with queue := [f] } } := by
    obtain ⟨-, heq⟩ | ⟨hfull, -⟩ := State.enqueue_cases f (s.heard f.requester)
    · rw [State.arrive, heq, hq, hqueue]
      rfl
    · rw [hq, hqueue] at hfull
      simp at hfull
  have hmay' : (s.arrive f).mayTake = true := by
    rw [State.mayTake_iff] at hmay ⊢
    rw [hjoined]
    exact ⟨hheld.trans hmay.1, hresponse.trans hmay.2.1, hrestart.trans hmay.2.2⟩
  have hleft : ({ s.heard f.requester with link := { (s.heard f.requester).link with queue := [] } } : State) =
      s.heard f.requester := by
    rw [← hqueue, ← hq]
  rw [State.takeFrame, if_pos hmay', hjoined, ← hleft]
  exact if_pos rfl

/-- Settles O8. -/
theorem requestsWaitForTheirTurn : Obligations.RequestsWaitForTheirTurn := by
  unfold Obligations.RequestsWaitForTheirTurn
  refine fun i row r s hrow => ⟨fun hwait => ?_, fun hheld hresponse hrestart hqueue => ?_⟩
  · rw [exec_serve hrow, serve_waits (State.takeFrame_eq_none hwait)]
  · have hmay : s.mayTake = true := State.mayTake_iff.mpr ⟨hheld, hresponse, hrestart⟩
    have hsame : (s.arrive (requestFrame row.code r)).takeFrame (requestFrame row.code r) =
        s.takeFrame (requestFrame row.code r) :=
      (State.takeFrame_arrive hmay hqueue).trans (State.takeFrame_empty hmay hqueue).symm
    rw [exec_serve hrow, exec_serve hrow, serve, serve, hsame]
    rw [State.takeFrame_empty hmay hqueue]

/-! ### The tables (R3, R8, R9, R21, R24) -/

theorem lowestFree_eq {top n : Nat} {held : List Nat} (h1 : 1 ≤ n) (h2 : n ≤ top) (hfree : n ∉ held)
    (hlow : ∀ m, 1 ≤ m → m < n → m ∈ held) : lowestFree top held = some n := by
  cases h : lowestFree top held with
  | none => exact absurd (lowestFree_none.mp h n h1 h2) hfree
  | some m =>
    obtain ⟨hm1, -, hmfree, hmlow⟩ := lowestFree_some h
    rcases Nat.lt_trichotomy m n with hmn | rfl | hmn
    · exact absurd (hlow m hm1 hmn) hmfree
    · rfl
    · exact absurd (hmlow n h1 hmn) hfree

/-- The state with a table of zones, DEPTH_CLIPPED raised where the record stored is clipped. -/
theorem State.storeZone_eq (z : Zone) (zs : List Zone) (s : State) : s.storeZone z zs =
    if z.clipped = true then ({ s with plan.zones := insertZoneSorted z zs } : State).raiseNotice .depthClipped
    else { s with plan.zones := insertZoneSorted z zs } := rfl

/-- Settles O9. -/
theorem numberedRequestsTestTheirNumber : Obligations.NumberedRequestsTestTheirNumber := by
  unfold Obligations.NumberedRequestsTestTheirNumber
  refine fun i row r s hserved => ⟨fun hi => ?_, fun hi => ?_⟩
  · have hact : ∃ act : Zone → State × Reply, requestAct i (r.body.take row.size) s.popped =
        withZone (fieldAt (r.body.take row.size) 0 1) s.popped act := by
      obtain rfl | rfl | rfl | rfl | rfl := hi <;> exact ⟨_, rfl⟩
    obtain ⟨act, hact⟩ := hact
    refine ⟨fun hn => exec_refused hserved (hact.trans (withZone_outside hn)), fun h1 h2 hno => ?_⟩
    refine exec_refused hserved (hact.trans (withZone_missing h1 h2 ?_))
    exact List.find?_eq_none.mpr fun z hz => by simpa using hno z hz
  · have hact : ∃ act : Mark → State × Reply, requestAct i (r.body.take row.size) s.popped =
        withMark (fieldAt (r.body.take row.size) 0 1) s.popped act := by
      obtain rfl | rfl | rfl := hi <;> exact ⟨_, rfl⟩
    obtain ⟨act, hact⟩ := hact
    refine ⟨fun hn => exec_refused hserved (hact.trans (withMark_outside hn)), fun h1 h2 hno => ?_⟩
    refine exec_refused hserved (hact.trans (withMark_missing h1 h2 ?_))
    exact List.find?_eq_none.mpr fun m hm => by simpa using hno m hm

/-- Settles O10. -/
theorem insertZoneStoresTheRecord : Obligations.InsertZoneStoresTheRecord := by
  unfold Obligations.InsertZoneStoresTheRecord
  refine fun r row s hserved => ⟨fun hf => exec_refused hserved ?_, fun f hf => ⟨fun ⟨z, hz, hmeets⟩ => ?_, fun hfree =>
    ⟨fun hfull => ?_, fun n h1 h2 hn hlow => ?_⟩⟩⟩
  · simp only [requestAct, insertZone, hf]
  · refine exec_refused hserved ?_
    have hany : s.popped.plan.zones.any (fun z => z.fields.meets f) = true :=
      List.any_eq_true.mpr ⟨z, hz, ZoneFields.meets_iff.mpr hmeets⟩
    simp only [requestAct, insertZone, hf, hany, ↓reduceIte]
  · refine exec_refused hserved ?_
    have hany : s.popped.plan.zones.any (fun z => z.fields.meets f) = false :=
      List.any_eq_false.mpr fun z hz => mt ZoneFields.meets_iff.mp (hfree z hz)
    have hnone : lowestFree Config.zoneNumbers (s.popped.plan.zones.map Zone.number) = none := lowestFree_none.mpr hfull
    simp only [requestAct, insertZone, hf, hany, Bool.false_eq_true, ↓reduceIte, hnone]
  · have hany : s.popped.plan.zones.any (fun z => z.fields.meets f) = false :=
      List.any_eq_false.mpr fun z hz => mt ZoneFields.meets_iff.mp (hfree z hz)
    have hsome : lowestFree Config.zoneNumbers (s.popped.plan.zones.map Zone.number) = some n := lowestFree_eq h1 h2 hn hlow
    refine ⟨insertZoneSorted ⟨n, f, false, s.isClipped f⟩ s.plan.zones, insertZoneSorted_perm _ _, insertZoneSorted_starts,
      exec_done hserved ?_⟩
    simp only [requestAct, insertZone, hf, hany, Bool.false_eq_true, ↓reduceIte, hsome, State.storeZone_eq, byteOf_eq]
    rfl

/-- Settles O11. -/
theorem amendZoneReplacesTheFields : Obligations.AmendZoneReplacesTheFields := by
  unfold Obligations.AmendZoneReplacesTheFields
  intro r row s z hserved n h1 h2 hz
  obtain ⟨hnumber, -⟩ := State.findZone_number hz
  have hact : requestAct (.amendZone r) (r.body.take row.size) s.popped = _ := withZone_found h1 h2 hz
  refine ⟨fun hf => exec_refused hserved ?_, fun f hf => ⟨fun ⟨y, hy, hyn, hmeets⟩ => ?_, fun hfree => ?_⟩⟩
  · simp only [hact, hf]
  · refine exec_refused hserved ?_
    have hany : (dropZone z.number s.popped.plan.zones).any (fun y => y.fields.meets f) = true :=
      List.any_eq_true.mpr ⟨y, List.mem_filter.mpr ⟨hy, by simpa [hnumber] using hyn⟩, ZoneFields.meets_iff.mpr hmeets⟩
    simp only [hact, hf, hany, ↓reduceIte]
  · have hany : (dropZone z.number s.popped.plan.zones).any (fun y => y.fields.meets f) = false := by
      refine List.any_eq_false.mpr fun y hy => mt ZoneFields.meets_iff.mp ?_
      obtain ⟨hy, hyn⟩ := List.mem_filter.mp hy
      exact hfree y hy (by simpa [hnumber] using hyn)
    refine ⟨insertZoneSorted ⟨n, f, z.suspended, s.isClipped f⟩ (dropZone n s.plan.zones), insertZoneSorted_perm _ _,
      fun hsorted => insertZoneSorted_starts (hsorted.sublist List.filter_sublist), exec_taken hserved ?_⟩
    rw [hnumber] at hact hany
    simp only [hact, hf, hany, Bool.false_eq_true, ↓reduceIte, State.storeZone_eq]
    rfl

/-- Settles O12. -/
theorem zonesAreSuspendedReinstatedAndRetired : Obligations.ZonesAreSuspendedReinstatedAndRetired := by
  unfold Obligations.ZonesAreSuspendedReinstatedAndRetired
  refine ⟨?_, ?_, fun r row s hserved => exec_taken hserved rfl⟩
  · intro i r row s z flag hserved hi n h1 h2 hz
    obtain ⟨hnumber, -⟩ := State.findZone_number hz
    obtain ⟨rfl, rfl⟩ | ⟨rfl, rfl⟩ := hi
    · have hact : requestAct (.suspendZone r) (r.body.take row.size) s.popped = _ := withZone_found h1 h2 hz
      refine ⟨fun hflag => exec_taken hserved ?_, fun hflag => exec_taken hserved ?_⟩
      · simp only [hact, hflag, ↓reduceIte]
      · simp only [hact, hflag, Bool.false_eq_true, ↓reduceIte, hnumber]
        rfl
    · have hact : requestAct (.reinstateZone r) (r.body.take row.size) s.popped = _ := withZone_found h1 h2 hz
      refine ⟨fun hflag => exec_taken hserved ?_, fun hflag => exec_taken hserved ?_⟩
      · simp only [hact, hflag, Bool.false_eq_true, ↓reduceIte]
      · have hflag : z.suspended = true := by simpa using hflag
        simp only [hact, hflag, ↓reduceIte, hnumber]
        rfl
  · intro r row s z hserved n h1 h2 hz
    refine exec_taken hserved ?_
    obtain ⟨hnumber, -⟩ := State.findZone_number hz
    have hact : requestAct (.retireZone r) (r.body.take row.size) s.popped = _ := withZone_found h1 h2 hz
    rw [hact, hnumber]
    rfl

/-! ### Re-evaluation (R16 to R18) -/

/-- Two zones that do not meet, whichever comes first. -/
def Zone.Apart (a b : Zone) : Prop := a.fields.stop ≤ b.fields.start ∨ b.fields.stop ≤ a.fields.start

/-- Two different zones of a table whose zones do not meet, whichever comes first. -/
theorem Zone.apart_of_mem {zs : List Zone} (h : zs.Pairwise Zone.Apart) {a b : Zone} (ha : a ∈ zs) (hb : b ∈ zs)
    (hne : a ≠ b) : Zone.Apart a b := by
  induction zs with
  | nil => exact absurd ha List.not_mem_nil
  | cons z zs ih =>
    obtain ⟨hfirst, hrest⟩ := List.pairwise_cons.mp h
    obtain rfl | hain := List.mem_cons.mp ha <;> obtain rfl | hbin := List.mem_cons.mp hb
    · exact absurd rfl hne
    · exact hfirst b hbin
    · exact (hfirst a hain).symm
    · exact ih hrest hain hbin

/-- At most one zone is in force, for no two zones of a table that keeps its law meet. -/
theorem State.candidate_eq {s : State} {z : Zone} (hok : ZonesOk s) (hz : z ∈ s.plan.zones) (hin : s.inForce z) :
    s.candidate = some z := by
  cases hc : s.candidate with
  | none => exact absurd hin (State.candidate_none hc z hz)
  | some y =>
    obtain ⟨hy, hyin⟩ := State.candidate_some hc
    have hapart : s.plan.zones.Pairwise Zone.Apart := hok.1.imp Or.inl
    refine Classical.byContradiction fun hne => ?_
    have hyz : Zone.Apart y z := Zone.apart_of_mem hapart hy hz fun h => hne (h ▸ rfl)
    unfold Zone.Apart at hyz
    obtain ⟨-, -, hystart, hystop⟩ := hyin
    obtain ⟨-, -, hzstart, hzstop⟩ := hin
    omega

theorem State.candidate_eq_none {s : State} (h : ∀ z ∈ s.plan.zones, ¬ s.inForce z) : s.candidate = none := by
  cases hc : s.candidate with
  | none => rfl
  | some y =>
    obtain ⟨hy, hyin⟩ := State.candidate_some hc
    exact absurd hyin (h y hy)

theorem State.takeGovernance_plan (z : Zone) (s : State) :
    (s.takeGovernance z).plan = { s.plan with governing := some z.number } := by
  simp [State.takeGovernance]

theorem State.loseGovernance_plan (s : State) : s.loseGovernance.plan = { s.plan with governing := none } := by
  simp [State.loseGovernance]

theorem State.raiseNotice_notice (n : Notice) (s : State) : (s.raiseNotice n).notice n =
    { s.notice n with latch := true, count := (s.notice n).count + 1 } := by
  rw [State.raiseNotice, State.updateAlert_notice, State.setNotice_notice_same]

/-- A zone's entry is raised once, and nothing after it in the hand-over touches that notice. -/
theorem State.takeGovernance_zoneEntered (z : Zone) (s : State) : (s.takeGovernance z).notice .zoneEntered =
    { s.notice .zoneEntered with latch := true, count := (s.notice .zoneEntered).count + 1 } := by
  calc (s.takeGovernance z).notice .zoneEntered
    _ = ((({ s with plan.governing := some z.number } : State).raiseNotice .zoneEntered).handClass
          z.fields.material |>.captureSide z .left |>.captureSide z .right).notice .zoneEntered :=
      State.tellCause_notice_ne (by decide) _
    _ = (({ s with plan.governing := some z.number } : State).raiseNotice .zoneEntered).notice .zoneEntered := by
      simp only [State.notice, State.captureSide_notices, State.handClass_notices]
    _ = _ := State.raiseNotice_notice _ _

theorem State.loseGovernance_zoneEntered (s : State) : s.loseGovernance.notice .zoneEntered = s.notice .zoneEntered := by
  rw [State.loseGovernance, State.tellPlanGap, State.tellCause_notice_ne (by decide)]
  simp only [State.notice, State.releaseSide_notices]

/-- Settles O13. -/
theorem reevaluationSettlesGovernance : Obligations.ReevaluationSettlesGovernance := by
  unfold Obligations.ReevaluationSettlesGovernance
  refine fun s amended hok => ⟨fun z hz hin => ?_, fun hnone => ?_⟩
  · have hc : s.candidate = some z := State.candidate_eq hok hz hin
    refine ⟨fun hgov hamended => ?_, fun hnew => ?_⟩
    · simp [State.reevaluate, hc, hgov, hamended]
    · have ht : s.reevaluate amended = s.takeGovernance z := by
        rw [State.reevaluate, hc]
        refine if_neg ?_
        simp only [Bool.and_eq_true, decide_eq_true_eq, not_and, Classical.not_not]
        exact fun hgov => hnew.resolve_left (Classical.not_not.mpr hgov)
      refine ⟨ht, ?_⟩
      rw [ht]
      exact ⟨State.takeGovernance_plan z s, State.takeGovernance_banks z, State.takeGovernance_zoneEntered z s⟩
  · have hc : s.candidate = none := State.candidate_eq_none hnone
    by_cases hgov : s.plan.governing = none
    · have ht : s.reevaluate amended = s := by
        rw [State.reevaluate, hc]
        exact if_pos hgov
      rw [ht, ← hgov]
      exact ⟨rfl, rfl, rfl, fun h => absurd rfl h, fun _ => rfl⟩
    · have ht : s.reevaluate amended = s.loseGovernance := by
        rw [State.reevaluate, hc]
        exact if_neg hgov
      rw [ht]
      exact ⟨State.loseGovernance_plan s, State.loseGovernance_banks s, State.loseGovernance_zoneEntered s, fun _ => rfl,
        fun h => absurd h hgov⟩

/-! ### The mark table (R22 to R26) -/

/-- A mark as it is stored: UNKNOWN on the sides it covers, CLEAR on the other, its memory re-armed (R23, R24). -/
theorem freshMark_eq (n : Nat) (f : MarkFields) : freshMark n f =
    ⟨n, f, if f.sides = .right then .clear else .unknown, if f.sides = .left then .clear else .unknown,
      ⟨false, false, false⟩⟩ := by
  rcases f with ⟨start, length, sides, clearance, gradient⟩
  cases sides <;> rfl

/-- Settles O15. -/
theorem marksAreStoredAndRetired : Obligations.MarksAreStoredAndRetired := by
  unfold Obligations.MarksAreStoredAndRetired
  refine ⟨fun r row s hserved => ⟨fun hf => exec_refused hserved ?_, fun f hf => ⟨fun hfull => exec_refused hserved ?_,
    fun n h1 h2 hn hlow => ?_⟩⟩, ?_, ?_⟩
  · have hf : checkedMark s.popped.maxDepth (r.body.take row.size) = none := hf
    simp only [requestAct, insertMark, hf]
  · have hf : checkedMark s.popped.maxDepth (r.body.take row.size) = some f := hf
    have hnone : lowestFree Config.markNumbers (s.popped.plan.marks.map Mark.number) = none := lowestFree_none.mpr hfull
    simp only [requestAct, insertMark, hf, hnone]
  · have hf : checkedMark s.popped.maxDepth (r.body.take row.size) = some f := hf
    have hsome : lowestFree Config.markNumbers (s.popped.plan.marks.map Mark.number) = some n := lowestFree_eq h1 h2 hn hlow
    refine ⟨insertMarkSorted (freshMark n f) s.plan.marks, freshMark_eq n f ▸ insertMarkSorted_perm _ _, insertMarkSorted_inOrder,
      exec_done hserved ?_⟩
    simp only [requestAct, insertMark, hf, hsome, byteOf_eq]
    rfl
  · intro r row s m hserved p n h1 h2 hm
    obtain ⟨hnumber, -⟩ := State.findMark_number hm
    have hact : requestAct (.amendMark r) (r.body.take row.size) s.popped = _ := withMark_found h1 h2 hm
    rw [hnumber] at hact
    refine ⟨fun hf => exec_refused hserved ?_, fun f hf => ⟨insertMarkSorted (freshMark n f) (dropMark n s.plan.marks),
      freshMark_eq n f ▸ insertMarkSorted_perm _ _, fun hsorted => insertMarkSorted_inOrder (hsorted.sublist List.filter_sublist),
      exec_taken hserved ?_⟩⟩
    · have hf : checkedMark s.popped.maxDepth ((r.body.take row.size).drop 1) = none := hf
      simp only [hact, hf]
    · have hf : checkedMark s.popped.maxDepth ((r.body.take row.size).drop 1) = some f := hf
      simp only [hact, hf]
      rfl
  · intro r row s m hserved n h1 h2 hm
    obtain ⟨hnumber, -⟩ := State.findMark_number hm
    have hact : requestAct (.retireMark r) (r.body.take row.size) s.popped = _ := withMark_found h1 h2 hm
    rw [hnumber] at hact
    exact exec_taken hserved hact

end Sys2Proof.Machine
end

section
/-! Who enters AUTO (O28) and what a panel reaches (O29). -/
namespace Sys2Proof.Machine

section
variable {s t : State} {i : Instr} {x : Side}

/-- The side a payload names has the code it carries. -/
theorem sideOf_eq_some {n : Nat} : sideOf n = some x ↔ n = sideCode x := by
  constructor
  · intro h
    unfold sideOf at h
    split at h <;> cases h <;> rfl
  · rintro rfl
    cases x <;> rfl

/-- An effect that brings a side into AUTO is that of an ENGAGE that names it. -/
theorem Effect.entersAuto (h : Effect s i t) (hs : (s.side x).state ≠ .auto) (ht : (t.side x).state = .auto) :
    ∃ r, i = .engage r ∧ sideOf (fieldAt (payloadOf 1 r) 0 1) = some x := by
  obtain ⟨hfollow, -⟩ | ⟨hrun, -⟩ | ⟨y, r, hi, hy, rfl, -⟩ | ⟨y, rfl, -⟩ | ⟨y, m, rfl, hstate, -⟩ := h.sides_cases
  · exact absurd ((hfollow x).2.1 ht).1 hs
  · exact absurd ((hrun x).1 ▸ ht) hs
  · obtain rfl | rfl := Side.eq_or_eq_other y x
    · exact ⟨r, hi, hy⟩
    · exact absurd (State.enterAuto_other y s ▸ ht) hs
  · obtain rfl | rfl := Side.eq_or_eq_other y x
    · rw [State.startReferencing_side] at ht
      cases ht
    · exact absurd (State.startReferencing_other y ▸ ht) hs
  · obtain rfl | rfl := Side.eq_or_eq_other y x
    · rw [State.setSide_side_same] at ht
      exact absurd ht hstate
    · rw [State.setSide_side_other] at ht
      exact absurd ht hs

/-- No reset command brings a side into AUTO. -/
theorem ResetEffect.keepsOutOfAuto (h : ResetEffect s i t) (hs : (s.side x).state ≠ .auto) : (t.side x).state ≠ .auto := by
  cases h with
  | asserted | restarted => exact hs
  | coldReleased => cases x <;> simp [State.side, resetSide]
  | warmReleased => cases x <;> simp [State.side, State.warmBlocks, SideLoop.warm, resetSide]

end

/-- Settles O28. -/
theorem onlyEngageEntersAuto : Obligations.OnlyEngageEntersAuto := by
  unfold Obligations.OnlyEngageEntersAuto
  intro i s t x hexec hs ht
  cases hrow : requestRow i with
  | none =>
    obtain rfl | ⟨-, heffect⟩ | hreset := exec_event_cases hrow hexec
    · exact absurd ht hs
    · obtain ⟨r, rfl, -⟩ := heffect.entersAuto hs ht
      cases hrow
    · exact absurd ht (hreset.keepsOutOfAuto hs)
  | some p =>
    obtain ⟨row, r⟩ := p
    obtain rfl | @⟨u, v, a, -, htake, heffect⟩ := exec_request_cases hrow hexec
    · exact absurd ht hs
    · obtain ⟨-, -, -, hleft, hright, -⟩ := State.takeFrame_keepsBlocks htake
      have hu : (u.side x).state ≠ .auto := by cases x <;> simp_all [State.side]
      have hv : (v.side x).state = .auto := by cases x <;> exact ht
      obtain rfl | ⟨-, heffect⟩ := heffect
      · exact absurd hv hu
      · obtain ⟨r', rfl, hx⟩ := heffect.entersAuto hu hv
        obtain ⟨rfl, rfl⟩ := Prod.mk.inj (Option.some.inj hrow)
        refine ⟨r', _, rfl, rfl, ?_⟩
        rw [sideOf_eq_some] at hx
        cases x <;> exact hx

/-! ### What a panel reaches (R189) -/

/-- The ground panel of a side. -/
def panelOf : Side → Requester
  | .left => .leftPanel
  | .right => .rightPanel

/-- A panel is granted what everyone is, and what the panels are for its own side. -/
theorem admits_panel {g : Grant} {x : Side} {p : List Byte} (h : g.admits (panelOf x) p = true) :
    g = .all ∨ g = .consolePanel ∧ fieldAt p 0 1 = sideCode x := by
  cases x <;> cases g <;> simp_all [Grant.admits, panelOf]

theorem fieldAt_payloadOf {n size : Nat} {r : Request} (h : n ≤ size) :
    fieldAt (payloadOf size r) 0 n = fieldAt r.body 0 n := by
  simp [fieldAt, payloadOf, List.take_take, h]

/-- Every request a panel may send for its own side carries that side's byte. -/
theorem panel_size {i : Instr} {row : RequestRow} {r : Request} (hrow : requestRow i = some (row, r))
    (h : row.grant = .consolePanel) : 1 ≤ row.size := by
  cases i <;> cases hrow <;> simp at h ⊢

/-- A state that differs by what one side's operator may do. -/
structure StaysWithin (x : Side) (s t : State) : Prop where
  other : t.side (otherSide x) = s.side (otherSide x)
  ground : KeepsGround s t
  governor : t.governor = s.governor
  conveyor : t.conveyor = s.conveyor
  timers : t.timers = s.timers
  roles : t.monitor.roles = s.monitor.roles
  mode : (t.side x).mode = (s.side x).mode

section
variable {s t : State} {i : Instr} {x : Side}

theorem StaysWithin.refl : StaysWithin x s s := ⟨rfl, ⟨rfl, rfl, rfl, rfl⟩, rfl, rfl, rfl, rfl, rfl⟩

/-- An operation of one side stays within it. -/
theorem StaysWithin.of_keeps (hother : t.side (otherSide x) = s.side (otherSide x)) (hground : KeepsGround s t)
    (houter : KeepsOuter s t) (hmonitor : t.monitor = s.monitor) (hmode : (t.side x).mode = (s.side x).mode) :
    StaysWithin x s t :=
  ⟨hother, hground, houter.1, houter.2.1, houter.2.2.2.2.1, by rw [hmonitor], hmode⟩

theorem State.disengageSide_other (x : Side) (s : State) :
    (s.disengageSide x).side (otherSide x) = s.side (otherSide x) := by
  unfold State.disengageSide
  dsimp only
  split
  · rfl
  · exact State.setSide_side_other ..
  · exact State.setSide_side_other ..
  · exact State.leaveAuto_other ..
  · rw [State.tellSideFrozen, State.tellCause_side, State.setSide_side_other]

/-- The effects of the requests that a panel may send for its side. -/
theorem Effect.ofPanel (h : Effect s i t) {row : RequestRow} {r : Request} (hrow : requestRow i = some (row, r))
    (hgrant : row.grant = .all ∨ row.grant = .consolePanel ∧ fieldAt r.body 0 1 = sideCode x) : StaysWithin x s t := by
  have own : ∀ {size : Nat} {y : Side}, 1 ≤ size → row.grant = .consolePanel →
      sideOf (fieldAt (payloadOf size r) 0 1) = some y → y = x := by
    intro size y hsize hpanel hy
    rw [fieldAt_payloadOf hsize, sideOf_eq_some] at hy
    obtain hall | ⟨-, hx⟩ := hgrant
    · rw [hpanel] at hall
      cases hall
    · have := hy.symm.trans hx
      cases x <;> cases y <;> first | rfl | cases this
  cases h with
  | same => exact .refl
  | noticesAcknowledged | zeroSet => exact ⟨rfl, ⟨rfl, rfl, rfl, rfl⟩, rfl, rfl, rfl, rfl, rfl⟩
  | engaged hx =>
    cases hrow
    obtain rfl := own (by decide) rfl hx
    refine .of_keeps (State.enterAuto_other _ _) (State.enterAuto_keepsGround _ _) (State.enterAuto_keepsOuter _ _)
      (State.enterAuto_monitor _ _) ?_
    rw [State.enterAuto_side]
  | disengaged hx =>
    cases hrow
    obtain rfl := own (by decide) rfl hx
    exact .of_keeps (State.disengageSide_other _ _) (State.disengageSide_keepsGround _ _)
      (State.disengageSide_keepsOuter _ _) (State.disengageSide_monitor _ _) (State.SidesFollow.disengageSide _ _).1
  | @jogged _ _ dir hx =>
    cases hrow
    obtain rfl := own (by decide) rfl hx
    refine .of_keeps ?_ (by simp [KeepsGround]) (by simp [KeepsOuter]) (by simp) ?_
    · rw [State.startLease, State.setSide_side_other, State.toManual_other]
    · rw [State.startLease, State.setSide_side_same]
      exact (State.SidesFollow.toManual _ _).1
  | referenceBegun hx =>
    cases hrow
    obtain rfl := own (by decide) rfl hx
    refine .of_keeps (State.startReferencing_other _) (State.startReferencing_keepsGround _ _)
      (State.startReferencing_keepsOuter _ _) (State.startReferencing_monitor _ _) ?_
    rw [State.startReferencing_side]
  | trimSet hx =>
    cases hrow
    obtain rfl := own (by decide) rfl hx
    refine .of_keeps (State.setSide_side_other ..) (by simp [KeepsGround]) (by simp [KeepsOuter]) (by simp) ?_
    rw [State.setSide_side_same]
  | _ => cases hrow <;> simp at hgrant

end

/-- Settles O29. -/
theorem panelsReachTheirOwnSideOnly : Obligations.PanelsReachTheirOwnSideOnly := by
  unfold Obligations.PanelsReachTheirOwnSideOnly
  intro i row r s t x hrow hpanel hexec
  have hpanel : r.requester = panelOf x := by cases x <;> exact hpanel
  have within : StaysWithin x s t := by
    obtain rfl | @⟨u, v, a, -, htake, heffect⟩ := exec_request_cases hrow hexec
    · exact .refl
    · obtain ⟨hplan, hstation, hmonitor, hleft, hright, hbanks, hgovernor, hconveyor, -, htimers, -⟩ :=
        State.takeFrame_keepsBlocks htake
      have hside : ∀ y, u.side y = s.side y := fun y => by cases y <;> assumption
      have huv : StaysWithin x u v := by
        obtain rfl | ⟨hgrant, heffect⟩ := heffect
        · exact .refl
        · refine heffect.ofPanel hrow ?_
          rw [hpanel] at hgrant
          refine (admits_panel hgrant).imp_right fun ⟨hg, hx⟩ => ⟨hg, ?_⟩
          rwa [fieldAt_payloadOf (panel_size hrow hg)] at hx
      exact ⟨huv.other.trans (hside _), ⟨huv.ground.1.trans hstation, huv.ground.2.1.trans hbanks,
        huv.ground.2.2.1.trans (by rw [hplan]), huv.ground.2.2.2.trans (by rw [hplan])⟩, huv.governor.trans hgovernor,
        huv.conveyor.trans hconveyor, huv.timers.trans htimers, huv.roles.trans (by rw [hmonitor]),
        huv.mode.trans (by rw [hside])⟩
  exact ⟨within.other, within.ground.2.2.1, within.ground.2.2.2, within.ground.1, within.ground.2.1, within.governor,
    within.conveyor, within.timers, within.roles, within.mode.symm⟩

end Sys2Proof.Machine
end

section
/-! The responses to served requests (O5) and the tests before them (O6). -/
namespace Sys2Proof.Machine

/-! ### The payload of an accepted answer (R190, section 10.7) -/

/-- An answer that is DONE or CLAMPED carries `n` payload bytes in one segment. -/
def Sized (n : Nat) (a : State × Reply) : Prop :=
  a.2.status.accepted = true → a.2.payload.length = n ∧ a.2.second = none

section
variable {n k : Nat} {s : State} {a b : State × Reply} {p : List Byte} {v : Status}

theorem Sized.of_refuse (h : v.accepted = false := by rfl) : Sized n (refuse v s) := fun ha =>
  absurd (h.symm.trans ha) Bool.noConfusion

theorem Sized.of_taken : Sized 0 (taken s) := fun _ => ⟨rfl, rfl⟩

theorem Sized.of_payload (h : p.length = n) : Sized n (s, ⟨v, p, none⟩) := fun _ => ⟨h, rfl⟩

theorem Sized.ite {c : Prop} [Decidable c] (ha : Sized n a) (hb : Sized n b) : Sized n (if c then a else b) := by
  split
  · exact ha
  · exact hb

theorem Sized.of_withZone {act : Zone → State × Reply} (h : ∀ z, Sized n (act z)) : Sized n (withZone k s act) := by
  refine .ite .of_refuse ?_
  split
  · exact .of_refuse
  · exact h _

theorem Sized.of_withMark {act : Mark → State × Reply} (h : ∀ m, Sized n (act m)) : Sized n (withMark k s act) := by
  refine .ite .of_refuse ?_
  split
  · exact .of_refuse
  · exact h _

theorem Sized.of_withSide {act : Side → State × Reply} (h : ∀ x, Sized n (act x)) : Sized n (withSide p s act) := by
  unfold withSide
  split
  · exact .of_refuse
  · exact h _

end

theorem zoneBytes_length (f : ZoneFields) : (zoneBytes f).length = 20 := by simp [zoneBytes]

theorem markBytes_length (f : MarkFields) : (markBytes f).length = 11 := by simp [markBytes]

theorem geometryBytes_length (g : Geometry) : (geometryBytes g).length = 30 := by
  unfold geometryBytes
  simp only [List.length_append, beBytes_length]
  simp only [byteOf_length]
  rw [flagBytes_length, flagBytes_length]

theorem bankBytes_length (b : Bank) : (bankBytes b).length = 20 := by simp [bankBytes]

theorem State.channelBytes_length (s : State) (n : Fin 8) : (s.channelBytes n).length = 21 := by
  simp [State.channelBytes]

theorem State.roleBytes_length (s : State) (q : Role) : (s.roleBytes q).length = 3 := by
  unfold State.roleBytes
  split <;> rfl

theorem contextBytes_length (c : PlanContext) : (contextBytes c).length = 24 := by simp [contextBytes]

theorem State.sideBytes_length (s : State) (x : Side) : (s.sideBytes x).length = 45 := by
  cases h : (s.side x).referencing <;> simp [State.sideBytes, h, contextBytes_length]

/-- Every accepted answer has the size of section 10.7. -/
theorem requestAct_sized {i : Instr} {row : RequestRow} {r : Request} (hrow : requestRow i = some (row, r)) (p : List Byte)
    (s : State) {n : Nat} (hn : n ∈ row.done) : Sized n (requestAct i p s) := by
  cases i <;> cases hrow <;> cases hn
  -- Chapter 1
  case insertZone =>
    simp only [requestAct, insertZone]
    split
    · exact .of_refuse
    · refine .ite .of_refuse ?_
      split
      · exact .of_refuse
      · exact .of_payload rfl
  case amendZone =>
    refine .of_withZone fun z => ?_
    split
    · exact .of_refuse
    · exact .ite .of_refuse .of_taken
  case suspendZone | reinstateZone => exact .of_withZone fun _ => .ite .of_taken .of_taken
  case retireZone => exact .of_withZone fun _ => .of_taken
  case readZone => exact .of_withZone fun _ => .of_payload (by simp [zoneBytes_length])
  case findZone =>
    refine .ite .of_refuse ?_
    split
    · exact .of_refuse
    · exact .of_payload rfl
  case insertMark =>
    simp only [requestAct, insertMark]
    split
    · exact .of_refuse
    · split
      · exact .of_refuse
      · exact .of_payload rfl
  case amendMark =>
    refine .of_withMark fun m => ?_
    split
    · exact .of_refuse
    · exact .of_taken
  case retireMark => exact .of_withMark fun _ => .of_taken
  case readMark => exact .of_withMark fun _ => .of_payload (by simp [markBytes_length])
  -- Chapter 2
  case readGeometry => exact .of_payload (by simp [geometryBytes_length])
  case fixStation => exact .ite .of_refuse (.ite .of_refuse .of_taken)
  case setTravelSense =>
    simp only [requestAct, setTravelSense]
    split
    · exact .of_refuse
    · exact .ite .of_refuse .of_taken
  case readStation => exact .of_payload (by simp)
  -- Chapter 4
  case configureChannel =>
    simp only [requestAct, configureChannel]
    split
    · exact .of_refuse
    · exact .ite .of_refuse (.ite .of_refuse (.ite .of_refuse .of_taken))
  case clearChannel =>
    simp only [requestAct, clearChannel]
    split
    · exact .of_refuse
    · exact .ite .of_refuse (.ite .of_taken .of_taken)
  case readChannel =>
    simp only [requestAct, readChannel]
    split
    · exact .of_refuse
    · exact .of_payload (s.channelBytes_length _)
  case assignRole =>
    simp only [requestAct, assignRole]
    split
    · refine .ite .of_refuse (.ite .of_taken (.ite (.ite .of_refuse ?_) .of_taken))
      split
      · exact .of_refuse
      · exact .ite .of_taken .of_refuse
    · exact .of_refuse
  case readRoles => exact .of_payload (by simp [allRoles, State.roleBytes_length])
  case setZero =>
    simp only [requestAct, setZero]
    split
    · exact .of_refuse
    · refine .ite .of_refuse (.ite .of_refuse ?_)
      split
      · exact .of_refuse
      · exact .ite .of_taken .of_refuse
  -- Chapters 5 and 6
  case engage =>
    exact .of_withSide fun _ =>
      .ite .of_refuse (.ite .of_taken (.ite .of_refuse (.ite .of_refuse (.ite .of_refuse .of_taken))))
  case disengage => exact .of_withSide fun _ => .of_taken
  case jog =>
    refine .of_withSide fun x => ?_
    split
    · exact .of_refuse
    · exact .of_taken
  case reference =>
    exact .of_withSide fun _ =>
      .ite .of_refuse (.ite .of_refuse (.ite .of_refuse (.ite .of_refuse (.ite .of_refuse .of_taken))))
  case setSideMode =>
    refine .of_withSide fun x => ?_
    split
    · exact .of_refuse
    · exact .ite .of_refuse (.ite .of_taken (.ite .of_refuse (.ite .of_refuse .of_taken)))
  case setTrim => exact .of_withSide fun _ => .of_payload (by simp)
  case readSide => exact .of_withSide fun x => .of_payload (s.sideBytes_length x)
  case readBank =>
    simp only [requestAct, readBank]
    split
    · exact .of_refuse
    · exact .of_payload (by simp [bankBytes_length])
  case writeBank =>
    simp only [requestAct, writeBank]
    split
    · exact .of_refuse
    · exact .ite .of_taken .of_refuse
  -- Chapter 7
  case setAdvanceCap => exact .of_payload (by simp)
  case readGovernor =>
    refine .of_payload ?_
    by_cases h : s.governor.formed = true <;> simp [h]
  -- Chapter 8
  case conveyorStart =>
    simp only [requestAct, conveyorStart]
    cases s.conveyor.state with
    | stopped | runOn | running => exact .of_taken
    | held | blocked => exact .of_refuse
  case conveyorStop =>
    simp only [requestAct, conveyorStop]
    cases s.conveyor.state <;> exact .of_taken
  case setBeltMode =>
    simp only [requestAct, setBeltMode]
    split
    · exact .of_refuse
    · exact .of_payload (by simp)
    · exact .of_payload (by simp)
  case truckAway =>
    simp only [requestAct, truckAway]
    cases s.conveyor.state with
    | running | runOn | held => exact .of_taken
    | stopped | blocked => exact .of_refuse
  case truckReady => exact .ite .of_taken .of_taken
  case setTruckTarget => exact .of_payload (by simp)
  case clearBlock => exact .ite .of_refuse (.ite .of_refuse .of_taken)
  case readConveyor => exact .of_payload (by simp)
  -- Chapter 9
  case readNotices => exact .of_payload (by simp)
  case acknowledgeNotices =>
    simp only [requestAct, acknowledgeNotices]
    split
    · exact .of_refuse
    · exact .of_payload (noticeSetBytes_length _)
  case writeGeometry | setNoticeMask =>
    simp only [requestAct, writeGeometry, setNoticeMask]
    split
    · exact .of_refuse
    · exact .of_taken
  -- The requests that are always taken.
  all_goals exact .of_taken

/-! ### The links around a served request -/

/-- A request leaves the links to the interface, but for the RESTART that waits. -/
theorem Effect.request_links {s t : State} {i : Instr} (h : Effect s i t) {p : RequestRow × Request}
    (hrow : requestRow i = some p) : t.link = { s.link with restartTaken := t.link.restartTaken } ∧
      (t.link.restartTaken = true → s.link.restartTaken = true ∨ ∃ r, i = .restart r) ∧
      t.sensorLink = s.sensorLink ∧ t.timers = s.timers := by
  have of_eq : t.link = s.link → t.sensorLink = s.sensorLink → t.timers = s.timers →
      t.link = { s.link with restartTaken := t.link.restartTaken } ∧
        (t.link.restartTaken = true → s.link.restartTaken = true ∨ ∃ r, i = .restart r) ∧
        t.sensorLink = s.sensorLink ∧ t.timers = s.timers := fun hlink hsensor htimers => by
    rw [hlink]
    exact ⟨rfl, .inl, hsensor, htimers⟩
  cases h with
  | @restartArranged r => exact ⟨rfl, fun _ => .inr ⟨r, rfl⟩, rfl, rfl⟩
  | same => exact of_eq rfl rfl rfl
  | _ => cases hrow <;> exact of_eq (by simp) (by simp) (by simp)

/-- A response that is placed leaves the rest of the links. -/
theorem State.answers_link {s u : State} (h : u.link = { s.link with restartTaken := u.link.restartTaken })
    {row : RequestRow} {r : Request} {v : Status} {p : List Byte} {q : Option (List Byte)} :
    (u.answers row r v p q).link = { s.link with
      response := (u.answers row r v p q).link.response, restartTaken := (u.answers row r v p q).link.restartTaken } := by
  unfold State.answers
  dsimp only
  rw [h]

/-- Settles O5. -/
theorem servedRequestsAreAnsweredOnce : Obligations.ServedRequestsAreAnsweredOnce := by
  unfold Obligations.ServedRequestsAreAnsweredOnce
  intro i row r s hserved
  have heffect := requestAct_effect hserved.isRow s.popped
  have hkeep := requestAct_keepsOnRefusal i (r.body.take row.size) s.popped
  obtain ⟨hlink, hrestart, hsensor, htimers⟩ := heffect.request_links hserved.isRow
  refine ⟨_, (requestAct i (r.body.take row.size) s.popped).2.status, _, _, exec_served hserved,
    ⟨rfl, ?_⟩, fun hrefused => ?_, fun haccepted n hn => ?_, ?_,
    ⟨fun h => ?_, ?_⟩, hsensor, htimers, heffect.keepsQueue.2⟩
  · rw [State.responseFrame]
    cases hq : r.requester <;> simp [State.answers, responseIdent, hq]
  · rw [hkeep hrefused]
    exact ⟨rfl, rfl⟩
  · obtain ⟨hlength, hsecond⟩ := requestAct_sized hserved.isRow (r.body.take row.size) s.popped hn haccepted
    exact ⟨hlength, by rw [hsecond]; rfl⟩
  · exact State.answers_link hlink
  · obtain h | ⟨r', rfl⟩ := hrestart h
    · exact Bool.noConfusion (hserved.atHead.noRestart.symm.trans h)
    · rw [(hserved.row_eq rfl).2]
  · rintro rfl
    rfl

/-- Settles O6. -/
theorem requestChecksComeInOrder : Obligations.RequestChecksComeInOrder := by
  unfold Obligations.RequestChecksComeInOrder
  refine ⟨fun i row r s hrow hhead => ⟨fun hsize => ?_, fun hsize hgrant => ?_⟩, fun g q p => ?_⟩
  · rw [exec_judged hrow hhead, judgeRequest_badSize hsize]
    rfl
  · rw [exec_judged hrow hhead, judgeRequest_notGranted hsize hgrant]
    rfl
  · cases q <;> cases g <;> simp [Grant.admits] <;> rfl

end Sys2Proof.Machine
end

section
/-! The reads of the plan (O16). -/
namespace Sys2Proof.Machine

/-! ### The reads of the plan (R13 to R15, R27, R28, R191) -/

/-- A zone of a table that keeps its law is the only one that contains a station. -/
theorem find?_contains_eq {zs : List Zone} {z : Zone} {st : Nat} (hapart : zs.Pairwise Zone.Apart) (hz : z ∈ zs)
    (hstart : z.fields.start ≤ st) (hstop : st < z.fields.stop) : zs.find? (fun z => z.fields.contains st) = some z := by
  cases h : zs.find? (fun z => z.fields.contains st) with
  | none =>
    have := List.find?_eq_none.mp h z hz
    simp [ZoneFields.contains, hstart, hstop] at this
  | some y =>
    have hy := List.mem_of_find?_eq_some h
    have hin := List.find?_some h
    simp only [ZoneFields.contains, Bool.and_eq_true, decide_eq_true_eq] at hin
    refine Classical.byContradiction fun hne => ?_
    have hyz : Zone.Apart y z := Zone.apart_of_mem hapart hy hz fun h => hne (h ▸ rfl)
    unfold Zone.Apart at hyz
    omega

/-- The position of a zone: where the station lies, by the sense of travel (R6). -/
theorem State.zonePosition_eq (s : State) (z : Zone) : s.zonePosition z =
    if s.station.valid = false then .unknown
    else if s.plan.governing = some z.number then .governing
    else if z.fields.start ≤ s.station.station ∧ s.station.station < z.fields.stop then .pending
    else if (s.station.station < z.fields.start ↔ s.station.sense = .ascending) then .pending else .passed := by
  unfold State.zonePosition
  dsimp only
  by_cases hbefore : s.station.station < z.fields.start <;> cases s.station.sense <;>
    simp [ZoneFields.contains, hbefore]

/-- The answer to a LIST request from its entries. -/
theorem listReply_eq (entries : List (List Byte)) :
    let n := min 12 entries.length
    let head (k : Nat) : List Byte := [BitVec.ofNat 8 k, BitVec.ofNat 8 n, BitVec.ofNat 8 (entries.length - n)]
    listReply entries = ⟨.done, head 1 ++ (entries.take 6).flatten,
      if 6 < n then some (head 2 ++ ((entries.take 12).drop 6).flatten) else none⟩ := by
  simp [listReply, byteOf_eq, Config.listEntries, Config.segmentEntries, List.take_take]

theorem zoneEntry_eq : zoneEntry = fun z =>
    BitVec.ofNat 8 z.number :: beBytes 4 z.fields.start ++ beBytes 4 z.fields.stop := by
  funext z
  rw [zoneEntry, byteOf_eq]
  rfl

theorem markEntry_eq : markEntry = fun m => BitVec.ofNat 8 m.number :: beBytes 4 m.fields.start ++
    beBytes 2 m.fields.length ++ [BitVec.ofNat 8 m.fields.sides.code] := by
  funext m
  rw [markEntry, byteOf_eq, byteOf_eq]
  rfl

/-- A LIST request tests its station and answers with its entries. -/
theorem exec_list {s : State} {i : Instr} {row : RequestRow} {r : Request} (hserved : s.serves i row r)
    {entries : List (List Byte)} (hact : requestAct i (r.body.take row.size) s.popped =
      if Config.stationMax < fieldAt (r.body.take row.size) 0 4 then refuse .outOfRange s.popped
      else (s.popped, listReply entries)) :
    let st := fieldAt (r.body.take row.size) 0 4
    (9999999 < st → exec i s = .next (s.refuses row r .outOfRange)) ∧
    (st ≤ 9999999 →
      let n := min 12 entries.length
      let head (k : Nat) : List Byte := [BitVec.ofNat 8 k, BitVec.ofNat 8 n, BitVec.ofNat 8 (entries.length - n)]
      exec i s = .next (s.popped.answers row r .done (head 1 ++ (entries.take 6).flatten)
        (if 6 < n then some (head 2 ++ ((entries.take 12).drop 6).flatten) else none))) := by
  refine ⟨fun hst => exec_refused hserved (hact.trans (if_pos hst)), fun hst => ?_⟩
  replace hact := hact.trans (if_neg (Nat.not_lt.mpr hst))
  rw [listReply_eq] at hact
  rw [exec_served hserved, hact]

/-- Settles O16. -/
theorem planReadsReportTheRecords : Obligations.PlanReadsReportTheRecords := by
  unfold Obligations.PlanReadsReportTheRecords
  refine ⟨?_, ?_, ?_, ?_⟩
  · intro r row s z hserved n h1 h2 hz st position
    obtain ⟨hnumber, -⟩ := State.findZone_number hz
    have hact : requestAct (.readZone r) (r.body.take row.size) s.popped = _ := withZone_found h1 h2 hz
    have hpos : s.popped.zonePosition z = position := by
      rw [State.zonePosition_eq, hnumber]
      rfl
    rw [hpos, hnumber] at hact
    refine (exec_done hserved hact).trans ?_
    simp [byteOf_eq, zoneFlags]
  · intro r row s hserved st
    refine ⟨fun hst => exec_refused hserved (if_pos hst), fun hst hnone => ?_, fun hst hok z hz hstart hstop => ?_⟩
    · refine exec_refused hserved ((if_neg (Nat.not_lt.mpr hst)).trans ?_)
      have : s.popped.plan.zones.find? (fun z => z.fields.contains st) = none :=
        List.find?_eq_none.mpr fun z hz => by simpa [ZoneFields.contains] using hnone z hz
      rw [this]
    · refine exec_done hserved ((if_neg (Nat.not_lt.mpr hst)).trans ?_)
      have : s.popped.plan.zones.find? (fun z => z.fields.contains st) = some z :=
        find?_contains_eq (hok.1.imp Or.inl) hz hstart hstop
      rw [this]
      dsimp only
      rw [byteOf_eq]
  · intro r row s m hserved n h1 h2 hm
    obtain ⟨hnumber, -⟩ := State.findMark_number hm
    have hact : requestAct (.readMark r) (r.body.take row.size) s.popped = _ := withMark_found h1 h2 hm
    rw [hnumber] at hact
    refine (exec_done hserved hact).trans ?_
    simp [byteOf_eq]
  · intro i r row s hserved st entries hi
    refine exec_list hserved ?_
    obtain ⟨rfl, rfl⟩ | ⟨rfl, rfl⟩ := hi
    · rw [← zoneEntry_eq]
      rfl
    · rw [← markEntry_eq]
      rfl

end Sys2Proof.Machine
end

section
/-! The encoder counts and the speed window (O19). -/
namespace Sys2Proof.Machine

/-- What a travel `d` makes of S, f and the validity (R39, R40): they carry, borrow, or pin at a limit. -/
structure StationCounter.Moves (c : StationCounter) (d : Int) (st fine : Nat) (valid : Bool) : Prop where
  within : 0 ≤ (c.fine : Int) + d → (c.fine : Int) + d < 10000 → st = c.station ∧ valid = c.valid ∧
    ((c.station = 9999999 ∧ c.fine = 0 ∧ c.valid = false) → fine = 0) ∧
    (¬ (c.station = 9999999 ∧ c.fine = 0 ∧ c.valid = false) → (fine : Int) = c.fine + d)
  carry : 10000 ≤ (c.fine : Int) + d → c.station < 9999999 →
    st = c.station + 1 ∧ (fine : Int) = c.fine + d - 10000 ∧ valid = c.valid
  top : 10000 ≤ (c.fine : Int) + d → c.station = 9999999 → st = 9999999 ∧ fine = 0 ∧ valid = false
  borrow : (c.fine : Int) + d < 0 → 0 < c.station →
    st + 1 = c.station ∧ (fine : Int) = c.fine + d + 10000 ∧ valid = c.valid
  bottom : (c.fine : Int) + d < 0 → c.station = 0 → st = 0 ∧ fine = 0 ∧ valid = false

theorem StationCounter.pinnedHigh_iff {c : StationCounter} :
    c.pinnedHigh = true ↔ c.station = 9999999 ∧ c.fine = 0 ∧ c.valid = false := by
  simp only [StationCounter.pinnedHigh, Bool.and_eq_true, Bool.not_eq_true', decide_eq_true_eq,
    show Config.stationMax = 9999999 from rfl]
  exact ⟨fun ⟨⟨hv, hf⟩, hs⟩ => ⟨hs, hf, hv⟩, fun ⟨hs, hf, hv⟩ => ⟨⟨hv, hf⟩, hs⟩⟩

/-- A travel of less than a carry moves S by at most one. -/
theorem StationCounter.accumulate_moves {c : StationCounter} {d : Int} (hst : c.station ≤ 9999999) (hlow : -10000 ≤ d) :
    ∃ (st fine : Nat) (valid : Bool), c.accumulate d = { c with station := st, fine := fine, valid := valid } ∧
      c.Moves d st fine valid := by
  have hcarry : Config.carryAt = 10000 := rfl
  have hmax : Config.stationMax = 9999999 := rfl
  unfold StationCounter.accumulate StationCounter.pin
  dsimp only
  split
  · split
    · exact ⟨_, _, c.valid, rfl, by constructor <;> intros <;> first | omega | exact ⟨rfl, by omega, rfl⟩⟩
    · exact ⟨_, _, _, rfl, by constructor <;> intros <;> first | omega | exact ⟨rfl, rfl, rfl⟩⟩
  · split
    · split
      · exact ⟨_, _, c.valid, rfl, by constructor <;> intros <;> first | omega | exact ⟨by omega, by omega, rfl⟩⟩
      · exact ⟨_, _, _, rfl, by constructor <;> intros <;> first | omega | exact ⟨rfl, rfl, rfl⟩⟩
    · split
      · rename_i hpin
        obtain ⟨hpin, hd⟩ := Bool.and_eq_true _ _ ▸ hpin
        obtain ⟨hs, hf, hv⟩ := StationCounter.pinnedHigh_iff.mp hpin
        refine ⟨_, _, _, rfl, ⟨fun _ _ => ⟨hs.symm, hv.symm, fun _ => rfl, fun h => absurd ⟨hs, hf, hv⟩ h⟩,
          ?_, ?_, ?_, ?_⟩⟩ <;> omega
      · rename_i hpin
        refine ⟨c.station, _, c.valid, rfl, ⟨fun _ _ => ⟨rfl, rfl, fun hpinned => ?_, fun _ => ?_⟩, ?_, ?_, ?_, ?_⟩⟩
        · have hd : ¬ 0 < d := fun hd => hpin (by simp [StationCounter.pinnedHigh_iff.mpr hpinned, hd])
          omega
        all_goals omega

theorem StationCounter.travel_eq {e : EncoderInput} {c : StationCounter} {travel : Int} {forward : Prop}
    (hforward : forward ↔ c.isForward e = true) (hahead : forward → travel = c.geometry.encoderDistance)
    (hback : ¬ forward → travel = -c.geometry.encoderDistance) : c.travel e = travel := by
  unfold StationCounter.travel
  split
  · exact (hahead (hforward.mpr ‹_›)).symm
  · exact (hback (mt hforward.mp ‹_›)).symm

/-- A count: the window gains the travel, the level changes, and S, f and the validity move (R38 to R40, R42). -/
theorem StationCounter.count_moves {e : EncoderInput} {c : StationCounter} (hst : c.station ≤ 9999999)
    (hg : c.geometry.inRange = true) : ∃ (st fine : Nat) (valid : Bool),
      c.Moves (if c.sense = .ascending then c.travel e else -c.travel e) st fine valid ∧
      c.count e = { c with
        station := st, fine := fine, valid := valid, accum := c.accum + c.travel e
        phaseA := if e = .encA then !c.phaseA else c.phaseA
        phaseB := if e = .encB then !c.phaseB else c.phaseB } := by
  have hdistance : c.geometry.encoderDistance ≤ 5000 := by
    simp only [Geometry.inRange, Bool.and_eq_true, decide_eq_true_eq] at hg
    omega
  have horient : c.sense.orient (c.travel e) = if c.sense = .ascending then c.travel e else -c.travel e := by
    cases c.sense <;> rfl
  have hlow : -10000 ≤ c.sense.orient (c.travel e) := by
    unfold StationCounter.travel Sense.orient
    split <;> split <;> omega
  obtain ⟨st, fine, valid, hcount, hmoves⟩ := StationCounter.accumulate_moves
    (c := ({ c with accum := c.accum + c.travel e } : StationCounter).movePhase e) (by cases e <;> exact hst) hlow
  rw [horient] at hmoves
  refine ⟨st, fine, valid, ?_, hcount.trans ?_⟩
  · cases e <;> exact ⟨hmoves.within, hmoves.carry, hmoves.top, hmoves.borrow, hmoves.bottom⟩
  · cases e <;> rfl

/-- The accumulator over 100, truncated (R42). -/
theorem tdiv_hundred (a : Int) : 100 * (a.tdiv 100).natAbs ≤ a.natAbs ∧ a.natAbs < 100 * ((a.tdiv 100).natAbs + 1) ∧
    (0 < a.tdiv 100 → 0 < a) ∧ (a.tdiv 100 < 0 → a < 0) := by
  have habs : (a.tdiv 100).natAbs = a.natAbs / 100 := Int.natAbs_tdiv a 100
  refine ⟨by omega, by omega, fun hv => ?_, fun hv => ?_⟩
  · refine Classical.byContradiction fun ha => ?_
    have := Int.tdiv_nonneg (a := -a) (b := 100) (by omega) (by omega)
    rw [Int.neg_tdiv] at this
    omega
  · refine Classical.byContradiction fun ha => ?_
    have := Int.tdiv_nonneg (a := a) (b := 100) (by omega) (by omega)
    omega

/-- Settles O19. -/
theorem encoderCountsAndSpeedWindows : Obligations.EncoderCountsAndSpeedWindows := by
  unfold Obligations.EncoderCountsAndSpeedWindows
  refine ⟨?_, fun s hrun => ⟨?_, s.station.accum.tdiv 100, ?_⟩⟩
  · intro e s hrun ⟨hst, _, hg⟩ c forward pinned travel hahead hback f
    have hforward : forward ↔ c.isForward e = true := by
      cases e <;> simp [forward, StationCounter.isForward]
    obtain ⟨st, fine, valid, hmoves, hcount⟩ := StationCounter.count_moves (e := e) hst hg
    rw [StationCounter.travel_eq hforward hahead hback] at hmoves hcount
    refine ⟨st, fine, valid, hmoves.within, hmoves.carry, hmoves.top, hmoves.borrow, hmoves.bottom, ?_⟩
    have hexec : exec (.encoderCount e) s =
        .next (({ s with station := s.station.count e } : State).stationChanged s.station) :=
      congrArg _ (State.whileRunning_running hrun)
    rw [hexec, hcount]
    obtain ⟨hst', hvalid', heq⟩ | ⟨hchanged, heq⟩ := State.stationChanged_cases s.station { s with station := { c with
        station := st, fine := fine, valid := valid, accum := c.accum + travel
        phaseA := if e = .encA then !c.phaseA else c.phaseA
        phaseB := if e = .encB then !c.phaseB else c.phaseB } }
    · rw [heq]
      exact congrArg _ (if_pos ⟨hst'.symm, hvalid'.symm⟩).symm
    · rw [heq]
      exact congrArg _ (if_neg fun h => hchanged ⟨h.1.symm, h.2.symm⟩).symm
  · exact congrArg _ (State.whileRunning_running hrun)
  · obtain ⟨hlow, hhigh, hpos, hneg⟩ := tdiv_hundred s.station.accum
    exact ⟨hlow, hhigh, hpos, hneg, congrArg _ (State.whileRunning_running hrun)⟩

end Sys2Proof.Machine
end

section
/-! The requests on channels and roles (O20, O21, O22, O23) and the sensor link's events (O24). -/
namespace Sys2Proof.Machine

/-! ### Operands -/

theorem channelOf_val (n : Fin 8) : channelOf n.val = some n := by
  simp [channelOf]

theorem channelOf_eq_none {v : Nat} : channelOf v = none ↔ 8 ≤ v := by
  simp [channelOf]

theorem sideOf_eq_none {n : Nat} (h1 : n ≠ 1) (h2 : n ≠ 2) : sideOf n = none := by
  unfold sideOf
  split <;> simp_all

/-! ### A cause told twice, and a hand-over to a side that stands -/

section
variable {s : State} {n : Fin 8} {q : Role}

theorem State.setNotice_self (k : Notice) (v w : NoticeRecord) (s : State) :
    (s.setNotice k v).setNotice k w = s.setNotice k w := by
  simp [State.setNotice]

theorem State.tellCause_again (k : Notice) (b : Bool) (s : State) :
    (s.tellCause k b).tellCause k b = s.tellCause k b := by
  obtain ⟨-, -, heq⟩ | ⟨rfl, -, heq⟩ | ⟨rfl, heq⟩ := State.tellCause_cases k b s
  · rw [heq, heq]
  · have hcause : ((s.tellCause k true).notice k).cause = true := by
      rw [heq, State.updateAlert_notice, State.setNotice_notice_same]
    exact (if_pos rfl).trans (if_pos hcause)
  · rw [heq]
    refine (if_neg Bool.false_ne_true).trans ?_
    rw [State.setNotice_notice_same, State.setNotice_self]

theorem State.tellSensorLost_again (s : State) : s.tellSensorLost.tellSensorLost = s.tellSensorLost := by
  have hlost : s.tellSensorLost.sensorLost = s.sensorLost := State.tellCause_sensorLost ..
  unfold State.tellSensorLost at hlost ⊢
  rw [hlost, State.tellCause_again]

theorem State.gradeLost_idle {x : Side} (h : (s.side x).state ≠ .auto ∧ (s.side x).state ≠ .referencing) :
    s.gradeLost x = s := by
  unfold State.gradeLost
  split <;> simp_all

theorem State.slopeLost_idle {x : Side} (h : (s.side x).state = .auto → (s.side x).mode ≠ .slope) : s.slopeLost x = s := by
  unfold State.slopeLost
  split <;> simp_all

theorem State.loadLost_idle {x : Side} (h : (s.side x).state ≠ .referencing) : s.loadLost x = s := if_neg h

/-- A change of a channel whose role is not in use moves no side. -/
theorem State.sidesAfter_idle (h : s.roleInUse q = false) (left off : Bool) : s.sidesAfter q left off = s := by
  rw [State.roleInUse_eq_false] at h
  cases q with
  | leftGrade => exact ite_eq_right_iff.mpr fun _ => State.gradeLost_idle ((h .left).1 rfl)
  | rightGrade => exact ite_eq_right_iff.mpr fun _ => State.gradeLost_idle ((h .right).1 rfl)
  | crossSlope =>
    refine ite_eq_right_iff.mpr fun _ => ?_
    rw [State.slopeLost_idle ((h .left).2.1 rfl), State.slopeLost_idle ((h .right).2.1 rfl)]
  | drumLoad =>
    refine ite_eq_right_iff.mpr fun _ => ?_
    rw [State.loadLost_idle ((h .left).2.2 rfl), State.loadLost_idle ((h .right).2.2 rfl)]
  | beltPressure => rfl

/-- The role a channel holds is in use. -/
theorem State.channelInUse_iff : s.channelInUse n = true ↔ ∃ q, s.roleHeld n = some q ∧ s.roleInUse q = true := by
  unfold State.channelInUse
  cases s.roleHeld n <;> simp

theorem State.kindUnfit_iff {k : Kind} : s.kindUnfit n k = true ↔ ∃ q, s.roleHeld n = some q ∧ q.admits k = false := by
  unfold State.kindUnfit
  cases s.roleHeld n <;> simp

/-- A hand-over of a channel whose role is not in use comes to nothing once SENSOR_LOST is re-evaluated. -/
theorem State.handOver_idle (h : s.channelInUse n = false) (before : Channel) :
    (s.handOver n before).tellSensorLost = s.tellSensorLost := by
  rw [State.handOver_eq]
  split
  · rfl
  · unfold State.channelInUse at h
    split
    · rename_i q hheld
      rw [hheld] at h
      rw [State.sidesAfter_idle h, State.tellSensorLost_again]
    · rfl

/-! ### CONFIGURE CHANNEL and CLEAR CHANNEL (R81, R82) -/

/-- What a CONFIGURE CHANNEL payload must carry (R81 test 1). -/
def configFair (p : List Byte) : Prop :=
  fieldAt p 0 1 < 8 ∧ 1 ≤ fieldAt p 1 1 ∧ fieldAt p 1 1 ≤ 63 ∧ 1 ≤ fieldAt p 4 1 ∧ fieldAt p 4 1 ≤ 40

theorem configOf_eq_none {p : List Byte} (h : ¬ configFair p ∨ kindOf (fieldAt p 2 1) (fieldAt p 3 1) = none) :
    configOf p = none := by
  cases hc : configOf p with
  | none => rfl
  | some ng =>
    unfold configOf at hc
    dsimp only at hc
    split at hc
    · rename_i m kind hm hkind
      split at hc
      · rename_i hfair
        simp only [Bool.and_eq_true, decide_eq_true_eq] at hfair
        obtain hno | hno := h
        · have hlt : fieldAt p 0 1 < 8 := by
            refine Classical.byContradiction fun hge => ?_
            rw [channelOf_eq_none.mpr (by omega)] at hm
            cases hm
          exact absurd ⟨hlt, hfair.1.1.1, hfair.1.1.2, hfair.1.2, hfair.2⟩ hno
        · rw [hno] at hkind
          cases hkind
      · cases hc
    · cases hc

theorem configOf_eq_some {p : List Byte} {n : Fin 8} {kind : Kind} (hfair : configFair p) (hn : n.val = fieldAt p 0 1)
    (hkind : kindOf (fieldAt p 2 1) (fieldAt p 3 1) = some kind) :
    configOf p = some (n, ⟨fieldAt p 1 1, kind, fieldAt p 4 1⟩) := by
  obtain ⟨-, h1, h2, h3, h4⟩ := hfair
  simp [configOf, ← hn, channelOf_val, hkind, h1, h2, h3, h4]

/-- The zero reference is kept for the same grade kind alone (R81). -/
theorem keptZero_eq (old : Channel) (kind : Kind) :
    (((∃ g ∈ old.config, g.kind = kind) ∧ kind.isGrade = true) → keptZero old kind = old.zero) ∧
    (¬((∃ g ∈ old.config, g.kind = kind) ∧ kind.isGrade = true) → keptZero old kind = none) := by
  unfold keptZero
  cases old.config <;> simp +contextual

/-- Settles O20. -/
theorem channelsAreConfiguredAndCleared : Obligations.ChannelsAreConfiguredAndCleared := by
  unfold Obligations.ChannelsAreConfiguredAndCleared
  refine ⟨?_, ?_⟩
  · intro r row s hserved p address timeout fair
    refine ⟨fun hno => exec_refused hserved ?_, fun n kind hfair hn hkind => ?_⟩
    · have hconfig : configOf (r.body.take row.size) = none := configOf_eq_none hno
      simp only [requestAct, configureChannel, hconfig]
    have hconfig : configOf (r.body.take row.size) = some (n, ⟨address, kind, timeout⟩) :=
      configOf_eq_some hfair hn hkind
    have hact : requestAct (.configureChannel r) (r.body.take row.size) s.popped =
        if s.channelInUse n then refuse .wrongState s.popped
        else if s.kindUnfit n kind then refuse .outOfRange s.popped
        else if s.addressTaken n address then refuse .duplicateAddress s.popped
        else taken (((s.popped.setChannel n (configuredChannel (s.channel n) ⟨address, kind, timeout⟩)).handOver n
          (s.channel n)).tellSensorLost) := by
      simp only [requestAct, configureChannel, hconfig]
      rfl
    intro old inUse unfit shared
    have hshared : s.addressTaken n address = true ↔ shared := by
      rw [← Decidable.not_iff_not, Bool.not_eq_true, State.addressTaken_eq_false]
      simp [shared]
    refine ⟨fun hu => ?_, fun hu hf => ?_, fun hu hf hs => ?_, fun hu hf hs => ?_⟩
    · exact exec_refused hserved (hact.trans (if_pos (State.channelInUse_iff.mpr hu)))
    · rw [if_neg (mt State.channelInUse_iff.mp hu), if_pos (State.kindUnfit_iff.mpr hf)] at hact
      exact exec_refused hserved hact
    · rw [if_neg (mt State.channelInUse_iff.mp hu), if_neg (mt State.kindUnfit_iff.mp hf), if_pos (hshared.mpr hs)] at hact
      exact exec_refused hserved hact
    · rw [if_neg (mt State.channelInUse_iff.mp hu), if_neg (mt State.kindUnfit_iff.mp hf),
        if_neg (mt hshared.mp hs)] at hact
      obtain ⟨hsame, hother⟩ := keptZero_eq (s.channel n) kind
      have hidle : (s.popped.setChannel n (configuredChannel (s.channel n) ⟨address, kind, timeout⟩)).channelInUse n =
          false := Bool.eq_false_iff.mpr (mt State.channelInUse_iff.mp hu)
      rw [State.handOver_idle hidle] at hact
      exact ⟨keptZero (s.channel n) kind, hsame, hother, exec_taken hserved hact⟩
  · intro r row s hserved n
    have hact : requestAct (.clearChannel r) (r.body.take row.size) s.popped =
        match channelOf n with
        | none => refuse .outOfRange s.popped
        | some k =>
          if s.channelInUse k then refuse .wrongState s.popped
          else if (s.channel k).config.isNone then taken s.popped
          else taken (((s.popped.dropRole k).setChannel k emptyChannel).tellSensorLost) := rfl
    refine ⟨fun hn => exec_refused hserved ?_, fun k hk => ⟨fun hu => exec_refused hserved ?_, fun hu =>
      ⟨fun hempty => exec_taken hserved ?_, fun hfull => exec_taken hserved ?_⟩⟩⟩
    · rw [hact, channelOf_eq_none.mpr hn]
    all_goals rw [hact, ← hk, channelOf_val]
    · exact if_pos (State.channelInUse_iff.mpr hu)
    · refine (if_neg (mt State.channelInUse_iff.mp hu)).trans (if_pos ?_)
      rw [hempty]
      rfl
    · refine (if_neg (mt State.channelInUse_iff.mp hu)).trans ((if_neg ?_).trans ?_)
      · simpa using hfull
      · rfl

/-! ### ASSIGN ROLE (R85 to R88) -/

theorem channelOrNoneOf_code {v : Option (Fin 8)} {c : Nat} (h : c = channelCode v) : channelOrNoneOf c = some v := by
  subst h
  cases v with
  | none => rfl
  | some n =>
    have : n.val ≠ 255 := by omega
    simp [channelOrNoneOf, channelCode, channelOf_val, this]

theorem channelOrNoneOf_eq_none {c : Nat} (h8 : 8 ≤ c) (h255 : c ≠ 255) : channelOrNoneOf c = none := by
  simp [channelOrNoneOf, h255, channelOf_eq_none.mpr h8]

/-- The channel carried may not take the role (R85 test 2). -/
theorem State.unfitFor_iff {v : Option (Fin 8)} : s.unfitFor q v = true ↔
    ∃ n ∈ v, (s.channel n).config = none ∨ (∃ g ∈ (s.channel n).config, q.admits g.kind = false) ∨
      ∃ q', s.roleHeld n = some q' ∧ q' ≠ q := by
  unfold State.unfitFor
  cases v with
  | none => simp
  | some n =>
    cases hconfig : (s.channel n).config with
    | none => simp [hconfig]
    | some g => cases hheld : s.roleHeld n <;> simp [hconfig, hheld]

theorem State.roleFixed_iff (huse : s.roleInUse q = true) : s.roleFixed q = true ↔
    q = .drumLoad ∨ (q = .leftGrade ∧ s.left.state = .referencing) ∨ (q = .rightGrade ∧ s.right.state = .referencing) := by
  cases q <;> simp [State.roleFixed]
  exact huse

/-- What ASSIGN ROLE does with a role in use (R85 tests 4 and 5, R87, R88). -/
def State.moveInUse (q : Role) (v : Option (Fin 8)) (s : State) : State × Reply :=
  if s.roleFixed q then refuse .wrongState s
  else match v with
    | none => refuse .wrongState s
    | some n => if (s.channel n).health = .live then taken (s.transfer q n) else refuse .notLive s

theorem State.moveInUse_live (hfixed : ¬ s.roleFixed q = true) (hlive : (s.channel n).health = .live) :
    s.moveInUse q (some n) = taken (s.transfer q n) := (if_neg hfixed).trans (if_pos hlive)

/-- What ASSIGN ROLE does once its operands are read. -/
theorem assignRole_eq {p : List Byte} {v : Option (Fin 8)} (hq : roleOf (fieldAt p 0 1) = some q)
    (hv : fieldAt p 1 1 = channelCode v) : assignRole p s =
      if s.unfitFor q v then refuse .outOfRange s
      else if s.monitor.roles.get q = v then taken s
      else if s.roleInUse q then s.moveInUse q v else taken (s.setRole q v).tellSensorLost := by
  unfold assignRole
  rw [hq, channelOrNoneOf_code hv]
  rfl

/-- The CROSS_SLOPE role moves, and each side that uses it restarts its settle sequence (R88). -/
theorem State.transferSlope_eq (n : Fin 8) (s : State) : s.transferSlope n =
    ({ s.setRole .crossSlope (some n) with
      left := if s.left.mode = .slope ∧ s.left.state = .auto then
        ((s.setRole .crossSlope (some n)).restartSettle .left).left else s.left
      right := if s.right.mode = .slope ∧ s.right.state = .auto then
        ((s.setRole .crossSlope (some n)).restartSettle .right).right else s.right } : State).tellSensorLost := by
  unfold State.transferSlope
  by_cases hl : s.left.mode = .slope ∧ s.left.state = .auto <;>
    by_cases hr : s.right.mode = .slope ∧ s.right.state = .auto <;>
    simp [hl, hr] <;> rfl

/-- Settles O21. -/
theorem rolesAreAssigned : Obligations.RolesAreAssigned := by
  unfold Obligations.RolesAreAssigned
  intro r row s hserved p
  refine ⟨fun hno => exec_refused hserved ?_, fun q v hq hv => ?_⟩
  · show assignRole p s.popped = _
    unfold assignRole
    obtain hrole | ⟨h8, h255⟩ := hno
    · rw [hrole]
    · rw [channelOrNoneOf_eq_none h8 h255]
      cases roleOf (fieldAt p 0 1) <;> rfl
  have hact : requestAct (.assignRole r) p s.popped = _ := assignRole_eq (s := s.popped) hq hv
  intro unfit
  have hunfit : s.popped.unfitFor q v = true ↔ unfit := State.unfitFor_iff
  refine ⟨fun h => exec_refused hserved ?_, fun h hsame => exec_taken hserved ?_, fun h hnew => ⟨fun hidle => ?_, fun huse =>
    ⟨fun hfixed => exec_refused hserved ?_, fun n hn hload hleft hright hlive => exec_refused hserved ?_,
      fun n hn hslope hlive => ?_⟩⟩⟩
  · exact hact.trans (if_pos (hunfit.mpr h))
  · exact hact.trans ((if_neg (mt hunfit.mp h)).trans (if_pos hsame))
  all_goals replace hact := hact.trans ((if_neg (mt hunfit.mp h)).trans (if_neg hnew))
  · have hidle : ¬ s.popped.roleInUse q = true := Bool.eq_false_iff.mp hidle
    exact exec_taken hserved (hact.trans (if_neg hidle))
  all_goals
    have huse : s.popped.roleInUse q = true := huse
    replace hact := hact.trans (if_pos huse)
  · by_cases hf : s.popped.roleFixed q = true
    · exact hact.trans (if_pos hf)
    · rw [State.roleFixed_iff huse] at hf
      have hv : v = none := by
        obtain hload | hleft | hright | hv := hfixed
        · exact absurd (.inl hload) hf
        · exact absurd (.inr (.inl hleft)) hf
        · exact absurd (.inr (.inr hright)) hf
        · exact hv
      refine hact.trans ((if_neg ?_).trans ?_)
      · rwa [State.roleFixed_iff huse]
      · rw [hv]
  · have hf : ¬ s.popped.roleFixed q = true := by
      rw [State.roleFixed_iff huse]
      rintro (hq | ⟨hq, hstate⟩ | ⟨hq, hstate⟩)
      · exact hload hq
      · exact hleft hq hstate
      · exact hright hq hstate
    refine hact.trans ((if_neg hf).trans ?_)
    rw [Option.mem_def.mp hn]
    exact if_neg hlive
  · have hf : ¬ s.popped.roleFixed q = true := by
      rw [State.roleFixed_iff huse]
      simp [hslope]
    rw [Option.mem_def.mp hn, State.moveInUse_live hf hlive, hslope] at hact
    exact ⟨_, _, rfl, rfl, exec_taken hserved (hact.trans (congrArg taken (State.transferSlope_eq n s.popped)))⟩

/-! ### The zero reference (R87, R91) -/

theorem sideOf_code {x : Side} {c : Nat} (h : c = match x with | .left => 1 | .right => 2) : sideOf c = some x := by
  subst h
  cases x <;> rfl

theorem Channel.sign_eq (c : Channel) : c.sign = match c.config with
    | some ⟨_, .sonic .minus, _⟩ => -1
    | some ⟨_, .rope .minus, _⟩ => -1
    | _ => 1 := by
  unfold Channel.sign
  rcases c.config with _ | ⟨_, kind, _⟩
  · rfl
  · cases kind <;> first | rfl | (rename_i p; cases p <;> rfl)

/-- Settles O23. -/
theorem setZeroReferencesTheChannel : Obligations.SetZeroReferencesTheChannel := by
  unfold Obligations.SetZeroReferencesTheChannel
  intro r row s hserved p depth
  have hact : requestAct (.setZero r) p s.popped = setZero p s.popped := rfl
  unfold setZero at hact
  refine ⟨fun h1 h2 => exec_refused hserved ?_, fun x hx => ?_⟩
  · rw [hact, sideOf_eq_none h1 h2]
  rw [sideOf_code hx] at hact
  intro busy role outside
  have hbusy : ((s.popped.side x).state = .auto || (s.popped.side x).state = .referencing) = true ↔ busy := by
    simp only [Bool.or_eq_true, decide_eq_true_eq]
    rfl
  have hdepth : (depth < -500 || 5000 < depth) = true ↔ depth < -500 ∨ 5000 < depth := by simp
  refine ⟨fun h => exec_refused hserved (hact.trans (if_pos (hbusy.mpr h))), fun h hout => ?_, fun h hin n hn =>
    ⟨fun hlive => ?_, fun v hlive hv => ?_⟩⟩
  all_goals replace hact := hact.trans (if_neg (mt hbusy.mp h))
  · refine exec_refused hserved ?_
    by_cases hd : depth < -500 ∨ 5000 < depth
    · exact hact.trans (if_pos (hdepth.mpr hd))
    · have hrole : s.popped.monitor.roles.get (gradeRole x) = none := (or_assoc.mpr hout).resolve_left hd
      rw [hact, hrole]
      exact if_neg (mt hdepth.mp hd)
  all_goals
    have hrole : s.popped.monitor.roles.get (gradeRole x) = some n := hn
    rw [hrole] at hact
    replace hact := hact.trans (if_neg (mt hdepth.mp fun hd => hin (or_assoc.mp (.inl hd))))
  · exact exec_refused hserved (hact.trans (if_neg hlive))
  · refine exec_taken hserved (hact.trans ((if_pos hlive).trans ?_))
    have hvalue : (s.popped.channel n).value.getD 0 = v := congrArg (Option.getD · 0) hv
    rw [hvalue, Channel.sign_eq]
    rfl

theorem Channel.sign_mul_self (c : Channel) : c.sign * c.sign = 1 := by
  rw [Channel.sign_eq]
  split <;> rfl

/-- A depth that is valid lies within −500..5000 (R78). -/
theorem Channel.depth_within {c : Channel} {d : Int} (h : c.depth = some d) : -500 ≤ d ∧ d ≤ 5000 := by
  unfold Channel.depth at h
  split at h
  · split at h
    · obtain rfl := Option.some.inj h
      exact bringWithin_within _ (by decide)
    · cases h
  · cases h

/-- The depth of a LIVE grade channel with a zero reference (R78). -/
theorem Channel.depth_eq {c : Channel} {g : ChannelConfig} {z v : Int} (hg : c.config = some g) (hz : c.zero = some z)
    (hv : c.value = some v) (hlive : c.health = .live) (hgrade : g.kind.isGrade = true) :
    c.depth = some (bringWithin (-500) 5000 ((z - v) * c.sign)) := by
  simp [Channel.depth, hg, hz, hv, hlive, hgrade]

/-- A grade channel that is rebased to a depth reports that depth (R87). -/
theorem Channel.depth_rebased {c : Channel} {g : ChannelConfig} {v d : Int} (hg : c.config = some g)
    (hgrade : g.kind.isGrade = true) (hlive : c.health = .live) (hv : c.value = some v) (hd : -500 ≤ d ∧ d ≤ 5000) :
    ({ c with zero := some (v + d * c.sign) } : Channel).depth = some d := by
  have hsame : (v + d * c.sign - v) * c.sign = d := by
    rw [Int.add_comm, Int.add_sub_cancel, Int.mul_assoc, Channel.sign_mul_self, Int.mul_one]
  calc ({ c with zero := some (v + d * c.sign) } : Channel).depth
    _ = some (bringWithin (-500) 5000 ((v + d * c.sign - v) * c.sign)) := Channel.depth_eq hg rfl hv hlive hgrade
    _ = some d := by rw [hsame, bringWithin_of_within hd.1 hd.2]

/-- Settles O22. -/
theorem bumplessTransferKeepsTheDepth : Obligations.BumplessTransferKeepsTheDepth := by
  unfold Obligations.BumplessTransferKeepsTheDepth
  intro r row s x n d v hserved p hside hchannel hauto hdepth hnew hheld ⟨g, hg, hgrade⟩ hlive hv
  have hrole : roleOf (fieldAt p 0 1) = some (gradeRole x) := by
    rw [hside]
    cases x <;> rfl
  have hact : requestAct (.assignRole r) p s.popped = _ := assignRole_eq (s := s.popped) (v := some n) hrole hchannel
  have hfit : ¬ s.popped.unfitFor (gradeRole x) (some n) = true := by
    rw [State.unfitFor_iff]
    rintro ⟨m, hm, hunfit⟩
    obtain rfl := Option.some.inj hm
    obtain h | ⟨g', hg', h⟩ | ⟨q', h, -⟩ := hunfit
    · exact Option.some_ne_none g (hg.symm.trans h)
    · obtain rfl := Option.some.inj (hg.symm.trans hg')
      rw [gradeRole_admits, hgrade] at h
      cases h
    · exact Option.some_ne_none q' (h.symm.trans hheld)
  have huse : s.popped.roleInUse (gradeRole x) = true := by cases x <;> simp_all [State.roleInUse, gradeRole, State.side]
  have hfixed : ¬ s.popped.roleFixed (gradeRole x) = true := by
    cases x <;> simp_all [State.roleFixed, gradeRole, State.side]
  have htransfer : s.popped.transfer (gradeRole x) n = s.popped.transferGrade x n := by cases x <;> rfl
  have hlive' : (s.popped.channel n).health = .live := hlive
  replace hact := hact.trans ((if_neg hfit).trans ((if_neg hnew).trans (if_pos huse)))
  rw [State.moveInUse_live hfixed hlive', htransfer] at hact
  have hmonitor : (s.popped.transferGrade x n).monitor = ((s.popped.rebase x n).setRole (gradeRole x) (some n)).monitor := by
    rw [State.transferGrade, State.tellSensorLost, State.tellCause_monitor, State.restartSettle_monitor]
  have hsame : (s.popped.transferGrade x n).channel n = { s.channel n with zero := some (v + d * (s.channel n).sign) } := by
    have hvalue : (s.popped.channel n).value.getD 0 = v := congrArg (Option.getD · 0) hv
    have hmeasured : (s.popped.measuredDepth x).getD 0 = d := congrArg (Option.getD · 0) hdepth
    calc (s.popped.transferGrade x n).channel n
      _ = (s.popped.rebase x n).channel n := congrArg (fun m => m.channels[n]) hmonitor
      _ = _ := by
        rw [State.rebase, State.setChannel_channel_same, hvalue, hmeasured]
        rfl
  have hother : ∀ k, k ≠ n → (s.popped.transferGrade x n).channel k = s.channel k := fun k hk =>
    calc (s.popped.transferGrade x n).channel k
      _ = (s.popped.rebase x n).channel k := congrArg (fun m => m.channels[k]) hmonitor
      _ = s.channel k := State.setChannel_channel_ne _ hk _
  have hroles : (s.popped.transferGrade x n).monitor.roles = s.monitor.roles.set (gradeRole x) (some n) :=
    congrArg ChannelMonitor.roles hmonitor
  have hreported : (s.popped.transferGrade x n).measuredDepth x = some d := by
    have hchannel : (s.popped.transferGrade x n).roleChannel (gradeRole x) = some ((s.popped.transferGrade x n).channel n) := by
      rw [State.roleChannel, hroles, Roles.get_set_same]
      rfl
    have hwithin : -500 ≤ d ∧ d ≤ 5000 := by
      obtain ⟨c, -, hc⟩ := Option.bind_eq_some_iff.mp hdepth
      exact Channel.depth_within hc
    rw [State.measuredDepth, hchannel, hsame]
    exact Channel.depth_rebased hg hgrade hlive hv hwithin
  have hside : (s.popped.transferGrade x n).side x =
      { s.side x with settle := s.activeBank.firstStep s.station.speed [0, 1, 2] } := by
    rw [State.transferGrade, State.tellSensorLost, State.tellCause_side, State.restartSettle, State.setSide_side_same]
    rfl
  have hstands : (s.popped.transferGrade x n).side (otherSide x) = s.side (otherSide x) := by
    rw [State.transferGrade, State.tellSensorLost, State.tellCause_side, State.restartSettle, State.setSide_side_other]
    rfl
  refine ⟨_, exec_taken hserved hact, hreported, hroles, hsame, hother, hside, hstands, ?_, ?_, ?_, ?_, ?_, ?_⟩ <;>
    simp [State.transferGrade, State.restartSettle, State.rebase, State.popped, State.answers]

/-! ### The sensor link (R75, R76, R195) -/

/-- A frame that carries a reading (R195). -/
def carriesReading (f : CanFrame) : Prop :=
  f.extended = false ∧ f.remote = false ∧ f.fd = false ∧ 3 ≤ f.data.length ∧ 0x501 ≤ f.ident ∧ f.ident ≤ 0x53F

theorem readingOf_some {f : CanFrame} (h : carriesReading f) :
    readingOf f = some ⟨f.ident - 0x500, signedAt f.data 0 2, f.data.getD 2 0⟩ := by
  obtain ⟨hext, hremote, hfd, hlength, hlow, hhigh⟩ := h
  simp [readingOf, hext, hremote, hfd, Nat.not_lt.mpr hlength, hlow, hhigh]

theorem readingOf_none {f : CanFrame} (h : ¬ carriesReading f) : readingOf f = none := by
  unfold readingOf
  split
  · rfl
  · rename_i hform
    split
    · rename_i hident
      simp only [Bool.or_eq_true, decide_eq_true_eq, not_or, Bool.not_eq_true, Nat.not_lt] at hform
      simp only [Bool.and_eq_true, decide_eq_true_eq] at hident
      exact absurd ⟨hform.1.1.1, hform.1.1.2, hform.1.2, hform.2, hident.1, hident.2⟩ h
    · rfl

/-- A channel is configured with an address. -/
def State.hasAddress (s : State) (a : Nat) (n : Fin 8) : Bool :=
  match (s.channel n).config with
  | some g => g.address = a
  | none => false

theorem State.hasAddress_iff {a : Nat} : s.hasAddress a n = true ↔ ∃ g ∈ (s.channel n).config, g.address = a := by
  unfold State.hasAddress
  cases (s.channel n).config <;> simp

theorem State.channelAt_none {a : Nat} (h : ∀ n, ∀ g ∈ (s.channel n).config, g.address ≠ a) : s.channelAt a = none := by
  refine List.find?_eq_none.mpr fun k _ hk => ?_
  obtain ⟨g, hg, ha⟩ := State.hasAddress_iff.mp hk
  exact h k g hg ha

theorem State.channelAt_some {a : Nat} {g : ChannelConfig} (hdistinct : s.addressesDistinct)
    (hg : (s.channel n).config = some g) (ha : g.address = a) : s.channelAt a = some n := by
  cases hc : s.channelAt a with
  | none => exact absurd (State.hasAddress_iff.mpr ⟨g, hg, ha⟩) (List.find?_eq_none.mp hc n (List.mem_finRange n))
  | some k =>
    obtain ⟨b, hb, hba⟩ := State.hasAddress_iff.mp (List.find?_some hc)
    rw [hdistinct k n b hb g hg (hba.trans ha.symm)]

theorem accepts_iff {k : Kind} {r : Reading} : accepts k r = true ↔
    k.inRange r.value = true ∧ (r.status = 0 ∨ (r.status = 1 ∧ k = .load)) := by
  simp [accepts, and_comm]

/-- Settles O24. -/
theorem readingsAndExpiriesSetHealth : Obligations.ReadingsAndExpiriesSetHealth := by
  unfold Obligations.ReadingsAndExpiriesSetHealth
  refine ⟨?_, fun n s hrun => ?_⟩
  · intro f s hrun reading address
    have hexec : exec (.readingMessage f) s = .next (match readingOf f with | some r => s.takeReading r | none => s) :=
      congrArg _ (State.whileRunning_running hrun)
    refine ⟨fun hno => ?_, ?_⟩
    · by_cases hreading : carriesReading f
      · have hnone : s.channelAt address = none := State.channelAt_none (hno.resolve_left (Classical.not_not.mpr hreading))
        rw [hexec, readingOf_some hreading]
        dsimp only [State.takeReading]
        rw [hnone]
      · rw [hexec, readingOf_none hreading]
    · intro hreading hdistinct n g hg haddress v status accepted c
      have htake : s.takeReading ⟨address, v, status⟩ =
          (s.setChannel n (c.afterReading g ⟨address, v, status⟩)).handOver n c := by
        unfold State.takeReading
        rw [State.channelAt_some hdistinct hg haddress]
        dsimp only
        rw [hg]
      have haccepts : accepts g.kind ⟨address, v, status⟩ = true ↔ accepted := accepts_iff
      refine ⟨c.afterReading g ⟨address, v, status⟩, fun ha => ?_, fun ha => ?_, ?_⟩
      · exact if_pos (haccepts.mpr ha)
      · exact if_neg (mt haccepts.mp ha)
      · rw [hexec, readingOf_some hreading]
        exact congrArg _ htake
  · have hexec : exec (.freshnessExpiry n) s = .next (s.expireFreshness n) := congrArg _ (State.whileRunning_running hrun)
    refine ⟨fun htimer => ?_, fun htimer => ?_⟩
    · rw [hexec, State.expireFreshness, htimer]
      rfl
    · rw [hexec]
      exact congrArg _ (if_pos (Option.isSome_iff_ne_none.mpr htimer))

end

end Sys2Proof.Machine
end

section
/-! Arrivals and malformed frames (O51), and what the resets leave (O54). -/
namespace Sys2Proof.Machine

/-! ### Malformed frames (R188) -/

/-- One command for each request code, in the order of section 10.7. -/
def requestCommands (r : Request) : List Instr :=
  [.insertZone r, .amendZone r, .suspendZone r, .reinstateZone r, .retireZone r, .readZone r, .findZone r, .listZones r,
    .insertMark r, .amendMark r, .retireMark r, .readMark r, .listMarks r, .clearPlan r, .writeGeometry r, .readGeometry r,
    .fixStation r, .setTravelSense r, .readStation r, .configureChannel r, .clearChannel r, .readChannel r, .assignRole r,
    .readRoles r, .setZero r, .engage r, .disengage r, .jog r, .reference r, .setSideMode r, .setTrim r, .readSide r,
    .writeBank r, .readBank r, .setAdvanceCap r, .readGovernor r, .conveyorStart r, .conveyorStop r, .setBeltMode r,
    .truckAway r, .truckReady r, .setTruckTarget r, .clearBlock r, .clearTotals r, .readConveyor r, .readNotices r,
    .acknowledgeNotices r, .setNoticeMask r, .presence r, .restart r]

theorem requestCommands_codes (r : Request) :
    (requestCommands r).map (fun i => (requestRow i).map fun p => p.1.code) = requestCodes.map some := rfl

/-- A code of section 10.7 is that of a command's row, and of no other (R188). -/
theorem mem_requestCodes {c : Nat} : c ∈ requestCodes ↔ ∃ i row r, requestRow i = some (row, r) ∧ row.code = c := by
  constructor
  · intro hc
    have hsome : some c ∈ (requestCommands default).map (fun i => (requestRow i).map fun p => p.1.code) := by
      rw [requestCommands_codes]
      exact List.mem_map_of_mem hc
    obtain ⟨i, -, hi⟩ := List.mem_map.mp hsome
    obtain ⟨⟨row, r⟩, hrow, hcode⟩ := Option.map_eq_some_iff.mp hi
    exact ⟨i, row, r, hrow, hcode⟩
  · rintro ⟨i, row, r, hrow, rfl⟩
    cases i <;> cases hrow <;> decide

theorem malformedData_iff {data : List Byte} : malformedData data = false ↔
    3 ≤ data.length ∧ ∃ i row r, requestRow i = some (row, r) ∧ row.code = (data.getD 0 0).toNat := by
  rw [← mem_requestCodes]
  simp [malformedData]

/-! ### Arrivals (R186, R187, R193) -/

theorem requesterOf_none {n : Nat} (h : n < 0x301 ∨ 0x304 < n) : requesterOf n = none := by
  unfold requesterOf
  split <;> first | rfl | omega

theorem arrivalOf_none {f : CanFrame} (h : f.extended = true ∨ f.remote = true ∨ f.ident < 0x301 ∨ 0x304 < f.ident) :
    arrivalOf f = none := by
  unfold arrivalOf
  by_cases hform : f.extended = true ∨ f.remote = true
  · exact if_pos (by simpa using hform)
  · rw [requesterOf_none ((or_assoc.mpr h).resolve_left hform)]
    split <;> rfl

theorem arrivalOf_some {f : CanFrame} {q : Requester} (hext : f.extended = false) (hremote : f.remote = false)
    (hq : requesterOf f.ident = some q) : arrivalOf f = some ⟨q, f.data⟩ := by
  simp [arrivalOf, hext, hremote, hq]

/-- A frame at the head of the queue is taken. -/
theorem State.takeFrame_of_head {s : State} {f : Frame} (hmay : s.mayTake = true) (hhead : s.link.queue.head? = some f) :
    s.takeFrame f = some s.popped := by
  obtain ⟨rest, hq⟩ := List.head?_eq_some_iff.mp hhead
  rw [State.takeFrame, if_pos hmay, State.popped, hq]
  exact if_pos rfl

/-- Settles O51. -/
theorem arrivalsJoinTheQueue : Obligations.ArrivalsJoinTheQueue := by
  unfold Obligations.ArrivalsJoinTheQueue
  refine ⟨fun f s hrun => ?_, fun f s => ?_⟩
  · have hexec : exec (.requestArrival f) s = .next (match arrivalOf f with | some g => s.arrive g | none => s) :=
      congrArg _ (State.whileRunning_running hrun)
    refine ⟨fun hno => ?_, ?_⟩
    · rw [hexec, arrivalOf_none hno]
    · intro q hext hremote hident heard t
      have hq : requesterOf f.ident = some q := by
        rw [hident]
        cases q <;> rfl
      rw [arrivalOf_some hext hremote hq] at hexec
      have ht : s.heard q = t := rfl
      have hqueue : t.link.queue = s.link.queue := (State.heard_blocks q s).1
      refine ⟨fun hroom => ?_, fun hfull => ?_⟩
      · rw [← hqueue] at hroom ⊢
        exact hexec.trans (congrArg _ (if_pos hroom))
      · rw [← hqueue] at hfull
        exact hexec.trans (congrArg _ (if_neg (Nat.not_lt.mpr hfull)))
  · intro known
    have hknown : malformedData f.data = false ↔ known := malformedData_iff
    refine ⟨fun h => congrArg _ (if_neg (Bool.eq_false_iff.mp (hknown.mpr h))), fun h hheld hresponse hrestart hhead => ?_⟩
    have hmal : malformedData f.data = true := by
      rw [← Bool.not_eq_false]
      exact mt hknown.mp h
    have htake : s.takeFrame f = some s.popped :=
      State.takeFrame_of_head (State.mayTake_iff.mpr ⟨hheld, hresponse, hrestart⟩) hhead
    have hexec : exec (.malformedFrameTaken f) s = .next (match s.takeFrame f with
        | none => s
        | some t => t.respond f.requester (f.data.getD 0 0) (f.data.getD 1 0) (plain .badRequest)) :=
      congrArg _ (if_pos hmal)
    rw [hexec, htake]
    rfl

/-! ### The causes told at a release (R179, R185) -/

/-- `t` is `s` with the causes in `L` told: each that holds is latched and counted, and nothing else of the notices
moved. -/
structure Told (s : State) (L : List Notice) (t : State) : Prop where
  same : ∀ n, t.condition n ↔ s.condition n
  raised : ∀ n ∈ L, s.condition n →
    t.notice n = { s.notice n with latch := true, cause := true, count := (s.notice n).count + 1 }
  rest : ∀ n, n ∉ L ∨ ¬ s.condition n → t.notice n = s.notice n

section
variable {s t : State} {L : List Notice}

theorem Told.refl (s : State) : Told s [] s := ⟨fun _ => Iff.rfl, nofun, fun _ _ => rfl⟩

theorem Told.tell (h : Told s L t) {k : Notice} {b : Bool} (hclear : (s.notice k).cause = false) (hk : k ∉ L)
    (hb : b = true ↔ t.condition k) : Told s (k :: L) (t.tellCause k b) := by
  have hbefore : t.notice k = s.notice k := h.rest k (.inl hk)
  rw [h.same] at hb
  refine ⟨fun n => (State.tellCause_condition t k b n).trans (h.same n), fun n hn hcond => ?_, fun n hn => ?_⟩
  · by_cases hnk : n = k
    · subst hnk
      obtain rfl := hb.mpr hcond
      have htell : t.tellCause n true = (t.setNotice n { t.notice n with
          latch := true, cause := true, count := (t.notice n).count + 1 }).updateAlert :=
        (if_pos rfl).trans (if_neg (by rw [hbefore, hclear]; exact Bool.false_ne_true))
      rw [htell, State.updateAlert_notice, State.setNotice_notice_same, hbefore]
    · rw [State.tellCause_notice_ne hnk]
      exact h.raised n ((List.mem_cons.mp hn).resolve_left hnk) hcond
  · by_cases hnk : n = k
    · subst hnk
      have hno : ¬ s.condition n := hn.resolve_left (Classical.not_not.mpr List.mem_cons_self)
      obtain rfl : b = false := Bool.eq_false_iff.mpr (mt hb.mp hno)
      have htell : t.tellCause n false = t.setNotice n { t.notice n with cause := false } := if_neg Bool.false_ne_true
      rw [htell, State.setNotice_notice_same, hbefore, ← hclear]
    · rw [State.tellCause_notice_ne hnk]
      exact h.rest n (hn.imp_left (mt (List.mem_cons_of_mem k)))

theorem State.beltBlocked_iff (s : State) : decide (s.conveyor.state = .blocked) = true ↔ s.condition .beltBlocked :=
  decide_eq_true_iff

/-- Where no cause is present, telling them all raises those whose conditions hold. -/
theorem State.tellAllCauses_told (hclear : ∀ n, (s.notice n).cause = false) : Told s conditionNotices.reverse s.tellAllCauses := by
  have h1 := (Told.refl s).tell (hclear _) (by decide) s.planGap_iff
  have h2 := h1.tell (hclear _) (by decide) (State.stationLost_iff _)
  have h3 := h2.tell (hclear _) (by decide) (State.sensorLost_iff _)
  have h4 := h3.tell (hclear _) (by decide) (State.sideFrozen_iff _)
  have h5 := h4.tell (k := .fillHigh) (hclear _) (by decide) Iff.rfl
  have h6 := h5.tell (hclear _) (by decide) (State.truckFull_iff _)
  have h7 := h6.tell (k := .beltBlocked) (hclear _) (by decide) (State.beltBlocked_iff _)
  exact h7.tell (k := .linkLost) (hclear _) (by decide) Iff.rfl

theorem State.tellAllCauses_notice (hclear : ∀ n, (s.notice n).cause = false) (n : Notice) :
    (s.condition n → s.tellAllCauses.notice n =
      { s.notice n with latch := true, cause := true, count := (s.notice n).count + 1 }) ∧
    (¬ s.condition n → s.tellAllCauses.notice n = s.notice n) := by
  have htold := State.tellAllCauses_told hclear
  refine ⟨fun hcond => htold.raised n ?_ hcond, fun hno => htold.rest n (.inr hno)⟩
  exact List.mem_reverse.mpr ((isCondition_iff n).mp (State.isCondition_of_condition hcond))

theorem State.warmBlocks_channel (ea eb : Bool) (s : State) (n : Fin 8) :
    (s.warmBlocks ea eb).channel n = (s.channel n).warm := mapTable_getElem ..

/-- The causes present after a warm reset (R155, R185): every channel is ABSENT, no side is in AUTO or FROZEN, and
the belt stands. -/
theorem State.warmBlocks_condition (ea eb : Bool) (s : State) (n : Notice) : (s.warmBlocks ea eb).condition n ↔
    n = .sensorLost ∧ allRoles.any (fun r => (s.monitor.roles.get r).isSome) = true ∨
    n = .fillHigh ∧ latchAfter s.station.geometry s.conveyor.fill s.conveyor.fillLatch = true ∨
    n = .truckFull ∧ 0 < s.conveyor.truckTarget ∧ s.conveyor.truckTarget * 100 ≤ s.conveyor.truckCounter := by
  have hidle : ∀ x, ((s.warmBlocks ea eb).side x).state = .idle := fun x => by cases x <;> rfl
  cases n with
  | sensorLost =>
    simp only [true_and, reduceCtorEq, false_and, or_false, List.any_eq_true]
    constructor
    · rintro ⟨q, c, hc, -⟩
      obtain ⟨n, hn, -⟩ := Option.map_eq_some_iff.mp hc
      exact ⟨q, Role.mem_allRoles q, Option.isSome_of_eq_some hn⟩
    · rintro ⟨q, -, hq⟩
      obtain ⟨n, hn⟩ := Option.isSome_iff_exists.mp hq
      refine ⟨q, _, Option.map_eq_some_iff.mpr ⟨n, hn, rfl⟩, ?_⟩
      rw [State.warmBlocks_channel]
      exact nofun
  | _ => simp [State.condition, hidle] <;> first | rfl | exact nofun

end

/-! ### What the releases leave (R96, R155, R185, R197) -/

theorem State.setNotice_notice_self (k : Notice) (s : State) : s.setNotice k (s.notice k) = s := by
  simp [State.setNotice, State.notice]

/-- Telling a cause that is absent, and was, changes nothing. -/
theorem State.tellCause_absent {s : State} {k : Notice} {b : Bool} (hclear : (s.notice k).cause = false)
    (hb : b = true ↔ s.condition k) (hno : ¬ s.condition k) : s.tellCause k b = s := by
  obtain rfl : b = false := Bool.eq_false_iff.mpr (mt hb.mp hno)
  calc s.tellCause k false
    _ = s.setNotice k { s.notice k with cause := false } := if_neg Bool.false_ne_true
    _ = s.setNotice k (s.notice k) := by rw [← hclear]
    _ = s := State.setNotice_notice_self k s

theorem State.tellAllCauses_absent {s : State} (hclear : ∀ n, (s.notice n).cause = false) (hno : ∀ n, ¬ s.condition n) :
    s.tellAllCauses = s := by
  have h1 : s.tellPlanGap = s := State.tellCause_absent (hclear _) s.planGap_iff (hno _)
  have h2 : s.tellStationInvalid = s := State.tellCause_absent (hclear _) s.stationLost_iff (hno _)
  have h3 : s.tellSensorLost = s := State.tellCause_absent (hclear _) s.sensorLost_iff (hno _)
  have h4 : s.tellSideFrozen = s := State.tellCause_absent (hclear _) s.sideFrozen_iff (hno _)
  have h5 : s.tellFillHigh = s := State.tellCause_absent (k := .fillHigh) (hclear _) Iff.rfl (hno _)
  have h6 : s.tellTruckFull = s := State.tellCause_absent (hclear _) s.truckFull_iff (hno _)
  have h7 : s.tellBeltBlocked = s := State.tellCause_absent (hclear _) s.beltBlocked_iff (hno _)
  have h8 : s.tellLinkLost = s := State.tellCause_absent (k := .linkLost) (hclear _) Iff.rfl (hno _)
  rw [State.tellAllCauses, h1, h2, h3, h4, h5, h6, h7, h8]

/-- No condition depends on the notices that a release clears. -/
theorem releasedNotices_condition (v : Vector NoticeRecord 19) (own : Notice) (s : State) (n : Notice) :
    (releasedNotices v own s).condition n ↔ s.condition n := by
  obtain ⟨-, hstation, hmonitor, hleft, hright, -, -, hconveyor, hlink, -⟩ := releasedNotices_keeps v own s
  exact State.condition_congr hleft hright (by rw [hstation]) hmonitor hconveyor (by rw [hlink]) n

theorem State.coldBlocks_condition (a b ea eb : Bool) (s : State) (n : Notice) : ¬ (s.coldBlocks a b ea eb).condition n := by
  have hidle : ∀ x, ((s.coldBlocks a b ea eb).side x).state = .idle := fun x => by cases x <;> rfl
  cases n with
  | sensorLost =>
    rintro ⟨q, c, hc, -⟩
    cases q <;> cases hc
  | planGap | stationInvalid | sideFrozen => simp [State.condition, hidle]
  | fillHigh | truckFull | beltBlocked | linkLost => simp [State.condition, State.coldBlocks, resetConveyor, resetLink]
  | _ => exact id

/-- After a cold reset no condition holds, so the notices are those of `State.reset`. -/
theorem coldState_reset (a b ea eb : Bool) (s : State) : coldState a b ea eb s = { State.reset with
    station := { State.reset.station with drumClass := classOf a b, phaseA := ea, phaseB := eb }
    pending := s.pending } := by
  have hclear : ∀ n, ((releasedNotices (Vector.replicate 19 (clearedNotice false)) .coldStart
      (s.coldBlocks a b ea eb)).notice n).cause = false := fun n => by
    rw [releasedNotices_notice]
    split <;> rfl
  have hno : ∀ n, ¬ (releasedNotices (Vector.replicate 19 (clearedNotice false)) .coldStart
      (s.coldBlocks a b ea eb)).condition n := fun n =>
    mt (releasedNotices_condition _ _ _ n).mp (State.coldBlocks_condition a b ea eb s n)
  rw [coldState_eq, State.tellAllCauses_absent hclear hno]
  rfl

theorem classOf_val (a b : Bool) : (classOf a b).val = 2 * (if a then 1 else 0) + (if b then 1 else 0) := by
  cases a <;> cases b <;> rfl

/-- A notice after a warm reset: WARM_RESTART and the causes present are latched with a count of 1. -/
theorem warmState_notice (ea eb : Bool) (s : State) (n : Notice) :
    (n = .warmRestart → (warmState ea eb s).notice n = ⟨true, (s.notice n).masked, false, 1⟩) ∧
    (n ≠ .warmRestart → (s.warmBlocks ea eb).condition n →
      (warmState ea eb s).notice n = ⟨true, (s.notice n).masked, true, 1⟩) ∧
    (n ≠ .warmRestart → ¬ (s.warmBlocks ea eb).condition n →
      (warmState ea eb s).notice n = ⟨false, (s.notice n).masked, false, 0⟩) := by
  have hreleased := releasedNotices_notice s.notices.records .warmRestart (s.warmBlocks ea eb)
  have hclear : ∀ k, ((releasedNotices s.notices.records .warmRestart (s.warmBlocks ea eb)).notice k).cause = false :=
    fun k => by
      rw [hreleased]
      split <;> rfl
  obtain ⟨hraised, hrest⟩ := State.tellAllCauses_notice hclear n
  rw [releasedNotices_condition, ← State.updateAlert_notice] at hraised hrest
  rw [hreleased] at hraised hrest
  refine ⟨fun hn => ?_, fun hn hcond => ?_, fun hn hcond => ?_⟩
  · rw [if_pos hn] at hrest
    refine hrest ?_
    rw [hn]
    exact id
  · rw [if_neg hn] at hraised
    exact hraised hcond
  · rw [if_neg hn] at hrest
    exact hrest hcond

theorem warmState_alert (ea eb : Bool) (s : State) : (warmState ea eb s).notices.alertLow = true ↔
    ∃ n : Notice, ((warmState ea eb s).notice n).latch = true ∧ ((warmState ea eb s).notice n).masked = false := by
  have hfollow := (releasedNotices_follow s.notices.records .warmRestart (s.warmBlocks ea eb)).tellAllCauses.updateAlert
  have halert : AlertOk (warmState ea eb s) := hfollow.alertOk (by simp [releasedNotices, State.warmBlocks])
  have hheld : (warmState ea eb s).heldReset = none := by simp
  rw [AlertOk, hheld] at halert
  simpa using halert

/-- Settles O54. -/
theorem resetsReleaseTheirValues : Obligations.ResetsReleaseTheirValues := by
  unfold Obligations.ResetsReleaseTheirValues
  refine ⟨fun a b ea eb s => ⟨fun hno => congrArg _ (if_neg hno), fun hheld k hk => ?_⟩, fun ea eb s =>
    ⟨fun hno => congrArg _ (if_neg hno), fun hheld => ⟨warmState ea eb s, congrArg _ (if_pos hheld), ?_⟩⟩⟩
  · obtain rfl : k = classOf a b := Fin.ext (hk.trans (classOf_val a b).symm)
    have hexec : exec (.coldResetRelease a b ea eb) s =
      .next (if s.heldReset = some .cold then coldState a b ea eb s else s) := rfl
    rw [hexec, if_pos hheld, coldState_reset]
  · obtain ⟨hplan, hstation, hmonitor, hleft, hright, hbanks, hgovernor, hconveyor, hlink, hsensor, htimers, hheld',
      hpending⟩ := warmState_blocks ea eb s
    have halert := warmState_alert ea eb s
    have hnotice := warmState_notice ea eb s
    generalize warmState ea eb s = t at *
    refine ⟨?_, hstation, fun n => ?_, ?_, fun x => ?_, hbanks, hgovernor,
      ⟨hconveyor, hlink, hsensor, htimers, hheld', hpending, fun n => ?_⟩, halert⟩
    · rw [hplan]
      simp only [State.warmBlocks, ← freshMark_eq]
      rfl
    · rw [State.channel, hmonitor]
      exact State.warmBlocks_channel ea eb s n
    · rw [hmonitor]
      rfl
    · cases x <;> simp only [State.side, hleft, hright] <;> rfl
    · intro present
      obtain ⟨hown, hraised, hrest⟩ := hnotice n
      have hcondition := State.warmBlocks_condition ea eb s n
      split
      · exact hown ‹_›
      · split
        · exact hraised ‹_› (hcondition.mpr ‹_›)
        · exact hrest ‹_› (mt hcondition.mp ‹_›)

end Sys2Proof.Machine
end

section
/-! Arithmetic and byte order (O55), and the records of section 10.6 (O56). -/
namespace Sys2Proof.Machine

/-! ### The root and the rounding up (R1) -/

/-- The search settles its bits from the top: the root so far is no larger than the root, and the bits still to settle
reach beyond it. -/
theorem isqrtBits_spec (k n r : Nat) (hlow : r * r ≤ n) (hhigh : n < (r + 2 ^ k) * (r + 2 ^ k)) :
    isqrtBits k n r * isqrtBits k n r ≤ n ∧ n < (isqrtBits k n r + 1) * (isqrtBits k n r + 1) := by
  induction k generalizing r with
  | zero => exact ⟨hlow, hhigh⟩
  | succ k ih =>
    unfold isqrtBits
    split
    · refine ih _ ‹_› ?_
      rwa [Nat.add_assoc, ← Nat.two_mul, ← Nat.pow_succ']
    · exact ih r hlow (Nat.not_le.mp ‹_›)

theorem isqrt_spec (n : Nat) : isqrt n * isqrt n ≤ n ∧ n < (isqrt n + 1) * (isqrt n + 1) := by
  refine isqrtBits_spec _ n 0 (Nat.zero_le n) ?_
  calc n < 2 ^ (n.log2 + 1) := Nat.lt_log2_self
    _ ≤ 2 ^ ((n.log2 / 2 + 1) + (n.log2 / 2 + 1)) := Nat.pow_le_pow_right (by decide) (by omega)
    _ = (0 + 2 ^ (n.log2 / 2 + 1)) * (0 + 2 ^ (n.log2 / 2 + 1)) := by rw [Nat.pow_add, Nat.zero_add]

/-- The quotient rounded up is the least that covers its dividend. -/
theorem divUp_le_iff {a b k : Nat} (hb : 0 < b) : divUp a b ≤ k ↔ a ≤ b * k := by
  rw [divUp_eq hb, Nat.div_le_iff_le_mul_add_pred hb]
  omega

/-! ### Bytes, most significant first (R199) -/

theorem beBytes_beNat (bs : List Byte) : beBytes bs.length (beNat bs) = bs := by
  generalize hn : bs.length = n
  induction n generalizing bs with
  | zero =>
    rw [List.eq_nil_of_length_eq_zero hn]
    rfl
  | succ n ih =>
    obtain ⟨bs, b, rfl⟩ : ∃ front b, bs = front ++ [b] :=
      ⟨bs.dropLast, bs.getLast (List.ne_nil_of_length_eq_add_one hn), (List.dropLast_concat_getLast _).symm⟩
    have hfront : bs.length = n := by simpa using hn
    have hb : b.toNat < 256 := b.isLt
    have hhigh : beNat (bs ++ [b]) / 256 = beNat bs := by
      rw [beNat_append_one]
      omega
    have hlow : BitVec.ofNat 8 (beNat (bs ++ [b])) = b := by
      refine BitVec.eq_of_toNat_eq ?_
      rw [beNat_append_one, BitVec.toNat_ofNat]
      omega
    rw [beBytes_succ_eq_append, hhigh, ih bs hfront, hlow]

/-- A signed value within `k` bytes reads back from its two's complement. -/
theorem signedOf_intBytes {k : Nat} {v : Int} (hk : 0 < k) (hlow : -(256 ^ k / 2 : Nat) ≤ v) (hhigh : v < (256 ^ k / 2 : Nat)) :
    signedOf k (v % (256 ^ k : Nat)).toNat = v := by
  have heven : 256 ^ k = 2 * (256 ^ k / 2) := by
    obtain ⟨j, rfl⟩ := Nat.exists_eq_succ_of_ne_zero (Nat.ne_of_gt hk)
    rw [Nat.pow_succ]
    omega
  unfold signedOf
  generalize 256 ^ k = n at *
  generalize n / 2 = h at *
  obtain hv | hv := Int.lt_or_le v 0
  · have hmod : v % (n : Int) = v + n := by
      rw [← Int.add_emod_right, Int.emod_eq_of_lt (by omega) (by omega)]
    rw [hmod, if_neg (by omega)]
    omega
  · rw [Int.emod_eq_of_lt hv (by omega), if_pos (by omega)]
    omega

theorem beNat_intBytes (k : Nat) (v : Int) : beNat (intBytes k v) = (v % (256 ^ k : Nat)).toNat := by
  refine beNat_beBytes ?_
  have hpos : (0 : Int) < (256 ^ k : Nat) := Int.natCast_pos.mpr (Nat.pow_pos (by decide))
  have hlt := Int.emod_lt_of_pos v hpos
  have hnonneg := Int.emod_nonneg v (Int.ne_of_gt hpos)
  omega

/-- Settles O55. -/
theorem rootsRoundingAndByteOrder : Obligations.RootsRoundingAndByteOrder := by
  unfold Obligations.RootsRoundingAndByteOrder
  refine ⟨isqrt_spec, fun a b k => divUp_le_iff, fun k v hv => ⟨beBytes_length k v, beNat_beBytes hv⟩, beBytes_beNat,
    fun k v hk hlow hhigh => ⟨intBytes_length k v, ?_⟩⟩
  rw [beNat_intBytes, signedOf_intBytes hk hlow hhigh]

/-! ### The ranges of the checked fields (R4, R22, R32, R122) -/

theorem zoneOfBytes_some {p : List Byte} (h : fieldAt p 15 1 ≤ 3) : zoneOfBytes p = some
    ⟨fieldAt p 0 4, fieldAt p 4 4, fieldAt p 8 2, fieldAt p 10 2, fieldAt p 12 2, fieldAt p 14 1,
      if fieldAt p 15 1 = 1 ∨ fieldAt p 15 1 = 3 then some (signedAt p 16 2) else none,
      if fieldAt p 15 1 = 2 ∨ fieldAt p 15 1 = 3 then some (fieldAt p 18 2) else none⟩ := by
  have hslope : fieldAt p 15 1 % 2 = 1 ↔ fieldAt p 15 1 = 1 ∨ fieldAt p 15 1 = 3 := by omega
  have hcap : 2 ≤ fieldAt p 15 1 ↔ fieldAt p 15 1 = 2 ∨ fieldAt p 15 1 = 3 := by omega
  simp only [zoneOfBytes, if_neg (Nat.not_lt.mpr h), hslope, hcap]

theorem ZoneFields.inRange_iff {z : ZoneFields} : z.inRange = true ↔ z.start ≤ 9999989 ∧ z.start + 10 ≤ z.stop ∧
    z.stop ≤ Config.stationMax ∧ z.leftDepth ≤ 5000 ∧ z.rightDepth ≤ 5000 ∧ z.ramp ≤ 5000 ∧ 1 ≤ z.material ∧ z.material ≤ 4 ∧
    (∀ v ∈ z.slope, -1000 ≤ v ∧ v ≤ 1000) ∧ ∀ v ∈ z.cap, 30 ≤ v ∧ v ≤ 600 := by
  rcases z with ⟨start, stop, leftDepth, rightDepth, ramp, material, slope, cap⟩
  cases slope <;> cases cap <;> simp [ZoneFields.inRange, and_assoc]

theorem MarkFields.inRange_iff {top : Nat} {m : MarkFields} : m.inRange top = true ↔ m.start ≤ Config.stationMax ∧
    1 ≤ m.length ∧ m.length ≤ 3000 ∧ m.start + m.length - 1 ≤ Config.stationMax ∧ m.clearance ≤ top ∧ ∀ g ∈ m.gradient, 1 ≤ g ∧ g ≤ 50 := by
  rcases m with ⟨start, length, sides, clearance, gradient⟩
  cases gradient <;> simp [MarkFields.inRange, and_assoc]

theorem markSidesOf_eq (n : Nat) : markSidesOf n =
    if 1 ≤ n ∧ n ≤ 3 then some (if n = 1 then .left else if n = 2 then .right else .both) else none := by
  unfold markSidesOf
  split
  · rfl
  · rfl
  · rfl
  · refine (if_neg ?_).symm
    simp only [imp_false] at *
    omega

theorem flagOf_eq (n : Nat) : flagOf n = if n ≤ 1 then some (decide (n = 1)) else none := by
  unfold flagOf
  split
  · rfl
  · rfl
  · refine (if_neg ?_).symm
    simp only [imp_false] at *
    omega

theorem Bank.inRange_iff {b : Bank} : b.inRange = true ↔
    b.deadBand ≤ 50 ∧ (∀ k ∈ [b.k0, b.k1, b.k2, b.k3], 1 ≤ k ∧ k ≤ 255) ∧ (∀ d ∈ [b.t0, b.t1, b.t2], d ≤ 31) ∧
    (∀ v ∈ [b.v0, b.v1, b.v2], v ≤ 600) ∧ 10 ≤ b.raiseMax ∧ b.raiseMax ≤ 300 ∧ 10 ≤ b.lowerMax ∧ b.lowerMax ≤ 300 ∧
    1 ≤ b.slewStep ∧ b.slewStep ≤ 100 ∧ 50 ≤ b.loadThreshold ∧ b.loadThreshold ≤ 97 := by
  simp only [Bank.inRange, Bool.and_eq_true, decide_eq_true_eq, List.forall_mem_cons, List.not_mem_nil, false_imp_iff,
    forall_const, and_true]
  omega

/-! ### Fields of bytes laid side by side -/

theorem fieldAt_beBytes (k v : Nat) (rest : List Byte) : fieldAt (beBytes k v ++ rest) 0 k = beNat (beBytes k v) := by
  rw [fieldAt, List.drop_zero, List.take_left' (beBytes_length k v)]

theorem fieldAt_skip {k v off len : Nat} (h : k ≤ off) (rest : List Byte) :
    fieldAt (beBytes k v ++ rest) off len = fieldAt rest (off - k) len := by
  rw [fieldAt, List.drop_append, List.drop_eq_nil_of_le (by simpa using h), beBytes_length, List.nil_append, fieldAt]

theorem fieldAt_beBytes_of_lt {k v : Nat} (h : v < 256 ^ k) (rest : List Byte) : fieldAt (beBytes k v ++ rest) 0 k = v := by
  rw [fieldAt_beBytes, beNat_beBytes h]

theorem fieldAt_beBytes_last {k v : Nat} (h : v < 256 ^ k) : fieldAt (beBytes k v) 0 k = v := by
  simpa using fieldAt_beBytes_of_lt h []

/-- A bank reads back from its bytes (R122, R199). -/
theorem bankOfBytes_bankBytes {b : Bank} (h : b.inRange = true) : bankOfBytes (bankBytes b) = b := by
  rw [Bank.inRange_iff] at h
  simp only [List.forall_mem_cons, List.not_mem_nil, false_imp_iff, forall_const, and_true] at h
  rcases b with ⟨deadBand, k0, k1, k2, k3, t0, t1, t2, v0, v1, v2, raiseMax, lowerMax, slewStep, loadThreshold⟩
  dsimp only at h
  simp only [bankBytes, byteOf, bankOfBytes, List.append_assoc]
  simp (disch := omega) only [fieldAt_skip, fieldAt_beBytes_of_lt, fieldAt_beBytes_last, Nat.reduceSub]

/-- The bytes of a zone record are read field by field (R199). -/
theorem zoneOfBytes_laid {start stop leftDepth rightDepth ramp material presence w c : Nat} (hstart : start < 256 ^ 4)
    (hstop : stop < 256 ^ 4) (hleft : leftDepth < 256 ^ 2) (hright : rightDepth < 256 ^ 2) (hramp : ramp < 256 ^ 2)
    (hmaterial : material < 256 ^ 1) (hpresence : presence ≤ 3) (hw : w < 256 ^ 2) (hc : c < 256 ^ 2) :
    zoneOfBytes (beBytes 4 start ++ beBytes 4 stop ++ beBytes 2 leftDepth ++ beBytes 2 rightDepth ++ beBytes 2 ramp ++
      byteOf material ++ byteOf presence ++ beBytes 2 w ++ beBytes 2 c) =
    some ⟨start, stop, leftDepth, rightDepth, ramp, material,
      if presence = 1 ∨ presence = 3 then some (signedOf 2 w) else none,
      if presence = 2 ∨ presence = 3 then some c else none⟩ := by
  simp only [byteOf, List.append_assoc]
  have hread : fieldAt (beBytes 4 start ++ (beBytes 4 stop ++ (beBytes 2 leftDepth ++ (beBytes 2 rightDepth ++
      (beBytes 2 ramp ++ (beBytes 1 material ++ (beBytes 1 presence ++ (beBytes 2 w ++ beBytes 2 c)))))))) 15 1 =
      presence := by
    simp (disch := omega) only [fieldAt_skip, fieldAt_beBytes_of_lt, Nat.reduceSub]
  rw [zoneOfBytes_some (Nat.le_trans (Nat.le_of_eq hread) hpresence), hread]
  simp (disch := omega) only [signedAt, fieldAt_skip, fieldAt_beBytes_of_lt, fieldAt_beBytes_last, Nat.reduceSub]

/-- A zone record reads back from its bytes (R4, R199). -/
theorem zoneOfBytes_zoneBytes {z : ZoneFields} (h : z.inRange = true) : zoneOfBytes (zoneBytes z) = some z := by
  obtain ⟨hstart, -, hstop, hleft, hright, hramp, -, hmaterial, hslope, hcap⟩ := ZoneFields.inRange_iff.mp h
  have hmax : Config.stationMax = 9999999 := rfl
  have hsigned : ∀ v ∈ z.slope, signedOf 2 (v % (256 ^ 2 : Nat)).toNat = v := fun v hv => by
    obtain ⟨hlow, hhigh⟩ := hslope v hv
    exact signedOf_intBytes (by decide) (by omega) (by omega)
  have hc : z.cap.getD 0 < 256 ^ 2 := by
    cases hz : z.cap with
    | none => decide
    | some v =>
      obtain ⟨-, hv⟩ := hcap v hz
      exact Nat.lt_of_le_of_lt hv (by decide)
  have hw : (z.slope.getD 0 % (256 ^ 2 : Nat)).toNat < 256 ^ 2 := by omega
  refine (zoneOfBytes_laid (by omega) (by omega) (by omega) (by omega) (by omega) (by omega) ?_ hw hc).trans ?_
  · split <;> split <;> decide
  · rcases z with ⟨start, stop, leftDepth, rightDepth, ramp, material, slope, cap⟩
    cases slope <;> cases cap <;> simp_all

theorem markSidesOf_code (v : MarkSides) : markSidesOf v.code = some v := by cases v <;> rfl

theorem flagOf_bool (b : Bool) : flagOf (if b then 1 else 0) = some b := by cases b <;> rfl

/-- A mark record reads back from its bytes (R22, R199). -/
theorem markOfBytes_markBytes {k : Fin 4} {m : MarkFields} (h : m.inRange (Config.drumMax k) = true) :
    markOfBytes (markBytes m) = some m := by
  obtain ⟨hstart, -, hlength, -, hclearance, hgradient⟩ := MarkFields.inRange_iff.mp h
  have hmax : Config.stationMax = 9999999 := rfl
  have hdrum : Config.drumMax k < 256 ^ 2 := Nat.lt_of_le_of_lt (Config.drumMax_le k) (by decide)
  have hsides : m.sides.code < 256 ^ 1 := by cases m.sides <;> decide
  have hg : m.gradient.getD 0 < 256 ^ 1 := by
    cases hm : m.gradient with
    | none => decide
    | some v =>
      obtain ⟨-, hv⟩ := hgradient v hm
      exact Nat.lt_of_le_of_lt hv (by decide)
  have hpresent : (if m.gradient.isSome then 1 else 0) < 256 ^ 1 := by split <;> decide
  simp only [markBytes, byteOf, markOfBytes, List.append_assoc]
  simp (disch := omega) only [fieldAt_skip, fieldAt_beBytes_of_lt, fieldAt_beBytes_last, Nat.reduceSub, markSidesOf_code,
    flagOf_bool]
  rcases m with ⟨start, length, sides, clearance, gradient⟩
  cases gradient <;> rfl

theorem Geometry.inRange_iff {g : Geometry} : g.inRange = true ↔
    10 ≤ g.encoderDistance ∧ g.encoderDistance ≤ 5000 ∧ 100 ≤ g.swell ∧ g.swell ≤ 200 ∧ 50 ≤ g.beltLoad ∧
    g.beltLoad ≤ 600 ∧ g.beltMargin ≤ 50 ∧ 50 ≤ g.beltMin ∧ g.beltMin ≤ 200 ∧ 200 ≤ g.beltMax ∧ g.beltMax ≤ 500 ∧
    10000 ≤ g.housingCapacity ∧ g.housingCapacity ≤ 120000 ∧ 50 ≤ g.fillHigh ∧ g.fillHigh ≤ 95 ∧ 20 ≤ g.fillLow ∧
    g.fillLow + 10 ≤ g.fillHigh ∧ 10 ≤ g.runOnTime ∧ g.runOnTime ≤ 300 ∧ 1 ≤ g.markGradient ∧ g.markGradient ≤ 50 ∧
    g.lookaheadLead ≤ 2000 ∧ 10 ≤ g.inCutThreshold ∧ g.inCutThreshold ≤ 200 ∧ 3 ≤ g.touchDelta ∧ g.touchDelta ≤ 30 ∧
    10 ≤ g.referenceRate ∧ g.referenceRate ≤ 100 ∧ 100 ≤ g.referenceTravel ∧ g.referenceTravel ≤ 2000 ∧ 10 ≤ g.jogRate ∧
    g.jogRate ≤ 200 ∧ 50 ≤ g.blockPressure ∧ g.blockPressure ≤ 350 := by
  simp only [Geometry.inRange, Bool.and_eq_true, decide_eq_true_eq, and_assoc]

/-- A geometry record reads back from its bytes (R32, R199). -/
theorem geometryOfBytes_geometryBytes {g : Geometry} (h : g.inRange = true) : geometryOfBytes (geometryBytes g) = some g := by
  rw [Geometry.inRange_iff] at h
  have hstart : (if g.autoStart then 1 else 0) < 256 ^ 1 := by split <;> decide
  have hhold : (if g.holdOnFull then 1 else 0) < 256 ^ 1 := by split <;> decide
  unfold geometryBytes geometryOfBytes
  simp only [byteOf, flagBytes, List.append_assoc]
  simp (disch := omega) only [fieldAt_skip, fieldAt_beBytes_of_lt, fieldAt_beBytes_last, Nat.reduceSub, flagOf_bool]

/-! ### The bytes of a payload cut into fields -/

theorem beBytes_fieldAt {p : List Byte} {off len : Nat} (h : off + len ≤ p.length) :
    beBytes len (fieldAt p off len) = (p.drop off).take len := by
  have hlength : ((p.drop off).take len).length = len := by
    rw [List.length_take, List.length_drop]
    omega
  calc beBytes len (fieldAt p off len)
    _ = beBytes ((p.drop off).take len).length (fieldAt p off len) := by rw [hlength]
    _ = (p.drop off).take len := beBytes_beNat _

/-- Two fields side by side are one. -/
theorem take_drop_append {p : List Byte} {off a next b : Nat} (h : next = off + a) :
    (p.drop off).take a ++ (p.drop next).take b = (p.drop off).take (a + b) := by
  rw [h, ← List.drop_drop, List.take_add]

theorem bankBytes_bankOfBytes {p : List Byte} (h : p.length = 20) : bankBytes (bankOfBytes p) = p := by
  simp only [bankBytes, bankOfBytes, byteOf]
  simp (disch := omega) only [beBytes_fieldAt, take_drop_append, Nat.reduceAdd]
  rw [List.drop_zero, ← h, List.take_length]

theorem geometryBytes_geometryOfBytes {p : List Byte} {g : Geometry} (h : p.length = 30)
    (hg : geometryOfBytes p = some g) : geometryBytes g = p := by
  have hflag : ∀ {n : Nat} {b : Bool}, flagOf n = some b → flagBytes b = beBytes 1 n := fun {n b} hb => by
    rw [flagOf_eq] at hb
    split at hb
    · obtain rfl := Option.some.inj hb
      obtain rfl | rfl : n = 0 ∨ n = 1 := by omega
      · rfl
      · rfl
    · cases hb
  unfold geometryOfBytes at hg
  split at hg
  · rename_i autoStart hold hstart hhold
    obtain rfl := Option.some.inj hg
    unfold geometryBytes
    simp only [byteOf, hflag hstart, hflag hhold]
    simp (disch := omega) only [beBytes_fieldAt, take_drop_append, Nat.reduceAdd]
    rw [List.drop_zero, ← h, List.take_length]
  · cases hg

/-! ### What the checks take (R7 test 3, R33) -/

/-- A record that the check takes is the one that was read, with every field in range. -/
theorem checked_eq {α : Type} {r : Option α} {z : α} {good : α → Bool} (hr : r = some z) :
    (good z = true → r.filter good = some z) ∧ (¬ good z = true → r.filter good = none) := by
  subst hr
  exact ⟨fun h => by simp [Option.filter, h], fun h => by simp [Option.filter, h]⟩

/-- What a zone's bytes must carry (R4). -/
def zoneFair (p : List Byte) : Prop :=
  fieldAt p 15 1 ≤ 3 ∧ fieldAt p 0 4 ≤ 9999989 ∧ fieldAt p 0 4 + 10 ≤ fieldAt p 4 4 ∧
    fieldAt p 4 4 ≤ 9999999 ∧ fieldAt p 8 2 ≤ 5000 ∧ fieldAt p 10 2 ≤ 5000 ∧ fieldAt p 12 2 ≤ 5000 ∧
    1 ≤ fieldAt p 14 1 ∧ fieldAt p 14 1 ≤ 4 ∧
    (fieldAt p 15 1 = 1 ∨ fieldAt p 15 1 = 3 → -1000 ≤ signedAt p 16 2 ∧ signedAt p 16 2 ≤ 1000) ∧
    (fieldAt p 15 1 = 2 ∨ fieldAt p 15 1 = 3 → 30 ≤ fieldAt p 18 2 ∧ fieldAt p 18 2 ≤ 600)

theorem forall_mem_ite_some {α : Type} {c : Prop} [Decidable c] {v : α} {q : α → Prop} :
    (∀ u ∈ (if c then some v else none), q u) ↔ (c → q v) := by
  by_cases h : c <;> simp [h]

theorem checkedZone_cases (p : List Byte) : (¬ zoneFair p → checkedZone p = none) ∧
    (zoneFair p → checkedZone p = some ⟨fieldAt p 0 4, fieldAt p 4 4, fieldAt p 8 2, fieldAt p 10 2, fieldAt p 12 2,
      fieldAt p 14 1, if fieldAt p 15 1 = 1 ∨ fieldAt p 15 1 = 3 then some (signedAt p 16 2) else none,
      if fieldAt p 15 1 = 2 ∨ fieldAt p 15 1 = 3 then some (fieldAt p 18 2) else none⟩) := by
  by_cases hpresence : fieldAt p 15 1 ≤ 3
  · obtain ⟨hgood, hbad⟩ := checked_eq (good := ZoneFields.inRange) (zoneOfBytes_some hpresence)
    simp only [ZoneFields.inRange_iff, forall_mem_ite_some] at hgood hbad
    exact ⟨fun hno => hbad fun h => hno ⟨hpresence, h⟩, fun h => hgood h.2⟩
  · have hnone : checkedZone p = none := by
      rw [checkedZone, zoneOfBytes, if_pos (Nat.not_le.mp hpresence)]
      rfl
    exact ⟨fun _ => hnone, fun h => absurd h.1 hpresence⟩

/-- What a mark's bytes must carry (R22). -/
def markFair (top : Nat) (p : List Byte) : Prop :=
  fieldAt p 0 4 ≤ 9999999 ∧ 1 ≤ fieldAt p 4 2 ∧ fieldAt p 4 2 ≤ 3000 ∧
    fieldAt p 0 4 + fieldAt p 4 2 - 1 ≤ 9999999 ∧ 1 ≤ fieldAt p 6 1 ∧ fieldAt p 6 1 ≤ 3 ∧ fieldAt p 7 2 ≤ top ∧
    fieldAt p 9 1 ≤ 1 ∧ (fieldAt p 9 1 = 1 → 1 ≤ fieldAt p 10 1 ∧ fieldAt p 10 1 ≤ 50)

theorem markOfBytes_some {p : List Byte} (hsides : 1 ≤ fieldAt p 6 1 ∧ fieldAt p 6 1 ≤ 3) (hpresent : fieldAt p 9 1 ≤ 1) :
    markOfBytes p = some ⟨fieldAt p 0 4, fieldAt p 4 2,
      if fieldAt p 6 1 = 1 then .left else if fieldAt p 6 1 = 2 then .right else .both, fieldAt p 7 2,
      if fieldAt p 9 1 = 1 then some (fieldAt p 10 1) else none⟩ := by
  simp only [markOfBytes, markSidesOf_eq, flagOf_eq, if_pos hsides, if_pos hpresent, decide_eq_true_eq]

theorem markOfBytes_none {p : List Byte} (h : ¬((1 ≤ fieldAt p 6 1 ∧ fieldAt p 6 1 ≤ 3) ∧ fieldAt p 9 1 ≤ 1)) :
    markOfBytes p = none := by
  unfold markOfBytes
  rw [markSidesOf_eq, flagOf_eq]
  by_cases hsides : 1 ≤ fieldAt p 6 1 ∧ fieldAt p 6 1 ≤ 3
  · rw [if_neg fun hpresent => h ⟨hsides, hpresent⟩]
    split <;> simp_all
  · rw [if_neg hsides]

theorem checkedMark_cases (top : Nat) (p : List Byte) : (¬ markFair top p → checkedMark top p = none) ∧
    (markFair top p → checkedMark top p = some ⟨fieldAt p 0 4, fieldAt p 4 2,
      if fieldAt p 6 1 = 1 then .left else if fieldAt p 6 1 = 2 then .right else .both, fieldAt p 7 2,
      if fieldAt p 9 1 = 1 then some (fieldAt p 10 1) else none⟩) := by
  by_cases hread : (1 ≤ fieldAt p 6 1 ∧ fieldAt p 6 1 ≤ 3) ∧ fieldAt p 9 1 ≤ 1
  · obtain ⟨hgood, hbad⟩ := checked_eq (good := MarkFields.inRange top) (markOfBytes_some hread.1 hread.2)
    simp only [MarkFields.inRange_iff, forall_mem_ite_some] at hgood hbad
    obtain ⟨⟨hs1, hs3⟩, hpresent⟩ := hread
    refine ⟨fun hno => hbad fun ⟨hstart, h1, hlength, hend, hclearance, hg⟩ => ?_, 
      fun ⟨hstart, h1, hlength, hend, _, _, hclearance, _, hg⟩ => hgood ⟨hstart, h1, hlength, hend, hclearance, hg⟩⟩
    exact hno ⟨hstart, h1, hlength, hend, hs1, hs3, hclearance, hpresent, hg⟩
  · have hnone : checkedMark top p = none := by
      rw [checkedMark, markOfBytes_none hread]
      rfl
    exact ⟨fun _ => hnone, fun ⟨_, _, _, _, hs1, hs3, _, hpresent, _⟩ => absurd ⟨⟨hs1, hs3⟩, hpresent⟩ hread⟩

theorem filter_some_ne_none {α : Type} {good : α → Bool} {z : α} : (some z).filter good ≠ none ↔ good z = true := by
  cases h : good z <;> simp [Option.filter, h]

/-- The geometry records that are read: both switches on or off, and every field in its range (R32, R33). -/
theorem checkedGeometry_ne_none {p : List Byte} : checkedGeometry p ≠ none ↔
    (fieldAt p 17 1 ≤ 1 ∧ fieldAt p 18 1 ≤ 1) ∧
      ∀ b h, Geometry.inRange ⟨fieldAt p 0 2, fieldAt p 2 1, fieldAt p 3 2, fieldAt p 5 1, fieldAt p 6 2, fieldAt p 8 2,
        fieldAt p 10 3, fieldAt p 13 1, fieldAt p 14 1, fieldAt p 15 2, b, h, fieldAt p 19 1, fieldAt p 20 2, fieldAt p 22 1,
        fieldAt p 23 1, fieldAt p 24 1, fieldAt p 25 2, fieldAt p 27 1, fieldAt p 28 2⟩ = true := by
  unfold checkedGeometry geometryOfBytes
  rw [flagOf_eq, flagOf_eq]
  by_cases hstart : fieldAt p 17 1 ≤ 1
  · by_cases hhold : fieldAt p 18 1 ≤ 1
    · rw [if_pos hstart, if_pos hhold]
      refine filter_some_ne_none.trans ⟨fun h => ⟨⟨hstart, hhold⟩, fun _ _ => h⟩, fun h => h.2 _ _⟩
    · rw [if_neg hhold]
      simp [hstart, hhold]
  · rw [if_neg hstart]
    simp [hstart]

/-- Settles O56. -/
theorem recordsSurviveTheirLayout : Obligations.RecordsSurviveTheirLayout := by
  unfold Obligations.RecordsSurviveTheirLayout
  refine ⟨checkedZone_cases, checkedMark_cases, fun p => ?_, fun b => Bank.inRange_iff, fun z hz =>
    ⟨zoneBytes_length z, (checked_eq (zoneOfBytes_zoneBytes hz)).1 hz⟩, fun k m hm =>
    ⟨markBytes_length m, (checked_eq (markOfBytes_markBytes hm)).1 hm⟩, fun g hg =>
    ⟨geometryBytes_length g, (checked_eq (geometryOfBytes_geometryBytes hg)).1 hg⟩, fun b hb =>
    ⟨bankBytes_length b, bankOfBytes_bankBytes hb⟩, fun p => bankBytes_bankOfBytes, fun p g =>
    geometryBytes_geometryOfBytes, fun bits hbits => ?_⟩
  · intro within
    simp only [within, checkedGeometry_ne_none, Geometry.inRange_iff, forall_const]
    constructor <;> intro h <;> omega
  · have hvalue : fieldAt (noticeSetBytes bits) 0 3 = bitsValue bits := by
      rw [fieldAt, List.drop_zero, List.take_of_length_le (by simp), beNat_noticeSetBytes (by omega)]
    have hlt : fieldAt (noticeSetBytes bits) 0 3 < 2 ^ 19 := by
      rw [hvalue, ← hbits]
      exact bitsValue_lt bits
    refine ⟨_, noticeSetOf_inRange hlt, fun k => ?_⟩
    rw [hvalue, bitsValue_testBit]

end Sys2Proof.Machine
end

section
/-! The slope override (O38), the positions of the marks (O39), and the offer with its announcements (O40). -/
namespace Sys2Proof.Machine

/-! ### The figures of a mark are the model's (R61, R62, R63, R69) -/

section
variable (s : State) (dref : Int) (m : MarkFields)

theorem State.extentLo_eq_figures : extentLo s.radius dref m = (s.figures dref m).lo := by
  rw [extentLo, halfChord_eq]
  rfl

theorem State.extentHi_eq_figures : extentHi s.radius dref m = (s.figures dref m).hi := by
  rw [extentHi, halfChord_eq]
  rfl

/-- Rounding up adds one where something remains; no excess over the clearance needs no approach. -/
theorem State.approachLength_eq_figures :
    (approachLength dref m.clearance (s.gradient m) : Int) = (s.figures dref m).a := by
  have hdivUp : ∀ a b : Nat, divUp a b = a / b + if a % b = 0 then 0 else 1 := fun a b => by
    unfold divUp
    split <;> rfl
  have hlength : approachLength dref m.clearance (s.gradient m) = divUp (dref - m.clearance).toNat (s.gradient m) := by
    unfold approachLength
    split
    · next hle => rw [Int.toNat_eq_zero.mpr (by omega), hdivUp, Nat.zero_div, Nat.zero_mod, if_pos rfl]
    · rfl
  rw [hlength, hdivUp]
  rfl

/-- A mark is PROTECTED within its extent, outside it APPROACH exactly where its envelope lies below. -/
theorem State.positionOf_cases :
    (s.withinExtent dref m ∧ s.positionOf dref m = .isProtected) ∨
    (¬ s.withinExtent dref m ∧ (s.figures dref m).env < dref ∧ s.positionOf dref m = .approach) ∨
    (¬ s.withinExtent dref m ∧ dref ≤ (s.figures dref m).env ∧ s.positionOf dref m = .clear) := by
  have hextent : (extentLo s.radius dref m ≤ s.station.station ∧ (s.station.station : Int) ≤ extentHi s.radius dref m) ↔
      s.withinExtent dref m := by
    rw [s.extentLo_eq_figures, s.extentHi_eq_figures]
    rfl
  unfold State.positionOf
  by_cases hin : s.withinExtent dref m
  · exact .inl ⟨hin, if_pos (hextent.mpr hin)⟩
  · rw [if_neg (mt hextent.mp hin), s.envelope_eq_figures]
    by_cases henv : (s.figures dref m).env < dref
    · exact .inr (.inl ⟨hin, henv, if_pos henv⟩)
    · exact .inr (.inr ⟨hin, Int.not_lt.mp henv, if_neg henv⟩)

theorem State.positionOf_ne_clear :
    s.positionOf dref m ≠ .clear ↔ s.withinExtent dref m ∨ (s.figures dref m).env < dref := by
  obtain ⟨hin, hpos⟩ | ⟨hout, henv, hpos⟩ | ⟨hout, henv, hpos⟩ := s.positionOf_cases dref m
  · simp [hpos, hin]
  · simp [hpos, henv]
  · simp [hpos, hout, henv]

theorem State.inRegion_iff : s.inRegion dref m = true ↔ s.withinLookahead dref m := by
  unfold State.inRegion State.withinLookahead
  simp only [s.extentLo_eq_figures, s.extentHi_eq_figures, s.approachLength_eq_figures]
  cases s.station.sense with
  | ascending => simp only [Bool.and_eq_true, decide_eq_true_eq, Int.sub_sub]
  | descending => simp only [Bool.and_eq_true, decide_eq_true_eq, Int.add_assoc]

theorem State.insideNow_iff (x : Side) :
    s.insideNow x dref m = true ↔ m.covers x = true ∧ s.station.valid = true ∧ s.withinLookahead dref m := by
  rw [State.insideNow, Bool.and_eq_true, Bool.and_eq_true, s.inRegion_iff, and_assoc]

end

/-- A mark is near a side when the station is valid and some covering mark is PROTECTED or APPROACH. -/
theorem State.markNear_iff (x : Side) (dref : Int) (s : State) : s.markNear x dref = true ↔
    s.station.valid = true ∧ ∃ k, (k ∈ s.plan.marks ∧ k.fields.covers x = true) ∧
      (s.withinExtent dref k.fields ∨ (s.figures dref k.fields).env < dref) := by
  simp only [State.markNear, Bool.and_eq_true, List.any_eq_true, decide_eq_true_eq, State.positionOf_ne_clear,
    State.mem_covering]
  refine and_congr_right fun _ => ⟨?_, ?_⟩
  · rintro ⟨_, ⟨k, hk, hc, rfl⟩, hnear⟩
    exact ⟨k, ⟨hk, hc⟩, hnear⟩
  · rintro ⟨k, ⟨hk, hc⟩, hnear⟩
    exact ⟨_, ⟨k, hk, hc, rfl⟩, hnear⟩

/-! ### The reference depth and the control reference of a SLOPE side (R60, R65 to R68) -/

/-- The reference depth the rules name is the one the computation uses. -/
theorem State.eq_referenceDepth_of_refersTo {x : Side} {s : State} {dref : Int} (h : s.refersTo x (s.stage1 x) dref) :
    dref = s.referenceDepth x := by
  unfold State.refersTo at h
  unfold State.referenceDepth
  cases hmode : (s.side x).mode with
  | grade =>
    simp only [hmode] at h ⊢
    exact h
  | slope =>
    cases hover : (s.side x).context.override with
    | some cap => simpa [hmode, hover] using h
    | none =>
      simp only [hmode, hover] at h ⊢
      obtain ⟨m, hm, heq⟩ := h
      rw [heq, State.cutDepth, hm]
      rfl

theorem State.referenceDepth_slope {x : Side} {s : State} (h : (s.side x).mode = .slope) :
    s.referenceDepth x = (s.side x).context.override.getD (s.cutDepth x) := by
  simp only [State.referenceDepth, h]
  cases (s.side x).context.override <;> rfl

/-- Near a mark a SLOPE side is held on depth, under the envelopes for its reference depth, which is captured. -/
theorem State.control_slope_near {x : Side} {s : State} (h : (s.side x).mode = .slope)
    (hnear : s.markNear x (s.referenceDepth x) = true) :
    (s.control x).override = some (s.referenceDepth x) ∧ (s.control x).basis = .depth ∧
      (s.control x).depthTarget = s.underEnvelopes x (s.referenceDepth x) (s.referenceDepth x) := by
  have href := State.referenceDepth_slope h
  unfold State.control
  cases hover : (s.side x).context.override with
  | none => simp only [h, hover, hnear, and_self]
  | some cap =>
    rw [hover, Option.getD_some] at href
    rw [href] at hnear
    simp only [h, hover, href, hnear, and_self]

/-- Clear of every mark it is on slope, whether an override ends there or none stood. -/
theorem State.control_slope_clear {x : Side} {s : State} (h : (s.side x).mode = .slope)
    (hclear : s.markNear x (s.referenceDepth x) = false) :
    (s.control x).override = none ∧ (s.control x).basis = .slope ∧ (s.control x).depthTarget = s.stage2 x := by
  unfold State.control
  cases hover : (s.side x).context.override <;> simp only [h, hover, hclear, and_self]

theorem State.control_slopeTarget {x : Side} {s : State} (h : (s.side x).mode = .slope) :
    (s.control x).slopeTarget = s.slopeTargetOf x := by
  unfold State.control
  cases hover : (s.side x).context.override <;> cases hnear : s.markNear x (s.referenceDepth x) <;>
    simp only [h, hover, hnear]

theorem State.slopeTargetOf_eq (x : Side) (s : State) : s.slopeTargetOf x = match s.governingZone with
    | some z => z.fields.slope.getD (s.side x).context.heldSlope
    | none => (s.side x).context.heldSlope := by
  unfold State.slopeTargetOf
  cases s.governingZone with
  | none => rfl
  | some z => cases hslope : z.fields.slope <;> simp [hslope]

/-- Settles O38: the reference depth is D_cap or the measured depth, and the control reference follows whether a mark
is near at it. -/
theorem slopeOverridesBeginAndEnd : Obligations.SlopeOverridesBeginAndEnd := by
  intro x s t m hrun hauto hslope hm hexec c c' clamp dref covering env near
  have hcontext : c' = s.contextAfter x := context_of_sideIntervalExpiry_auto hrun hauto hexec
  have hdref : s.referenceDepth x = dref := by
    rw [State.referenceDepth_slope hslope, State.cutDepth, hm]
    rfl
  have hnear : s.markNear x (s.referenceDepth x) = true ↔ near := by
    rw [hdref]
    exact s.markNear_iff x dref
  rw [hcontext]
  refine ⟨fun h => ?_, fun h => ?_, ?_⟩
  · obtain ⟨hover, hbasis, htarget⟩ := State.control_slope_near hslope (hnear.mpr h)
    rw [hdref] at hover htarget
    obtain ⟨least, hclamp, hle, henv, hleast⟩ := s.underEnvelopes_spec x dref dref
    simp only [State.envelope_eq_figures] at henv hleast
    refine ⟨hover, hbasis, least, htarget.trans hclamp, hle, fun k ⟨hk, hc⟩ => henv k hk hc, hleast.imp_right ?_⟩
    rintro ⟨k, hk, hc, heq⟩
    exact ⟨k, ⟨hk, hc⟩, heq⟩
  · exact State.control_slope_clear hslope (Bool.eq_false_iff.mpr (mt hnear.mp h))
  · exact (State.control_slopeTarget hslope).trans (s.slopeTargetOf_eq x)

/-! ### A side near a mark (R63, R64, R66, R67) -/

/-- A side near a mark is held on depth, under the envelope of every covering mark. -/
theorem State.control_of_near {x : Side} {s : State} (hnear : s.markNear x (s.referenceDepth x) = true) :
    (s.control x).basis = .depth ∧
      ∀ k ∈ s.plan.marks, k.fields.covers x = true →
        (s.control x).depthTarget ≤ (s.figures (s.referenceDepth x) k.fields).env := by
  have htarget : (s.control x).basis = .depth ∧
      (s.control x).depthTarget = s.underEnvelopes x (s.referenceDepth x) (s.referenceDepth x) := by
    cases hmode : (s.side x).mode with
    | grade =>
      obtain ⟨hbasis, htarget⟩ := State.control_grade hmode
      rw [if_pos ((s.markNear_iff ..).mp hnear).1] at htarget
      rw [State.referenceDepth_grade hmode]
      exact ⟨hbasis, htarget⟩
    | slope => exact (State.control_slope_near hmode hnear).2
  obtain ⟨least, hclamp, -, henv, -⟩ := s.underEnvelopes_spec x (s.referenceDepth x) (s.referenceDepth x)
  refine ⟨htarget.1, fun k hk hc => ?_⟩
  rw [htarget.2, hclamp, ← State.envelope_eq_figures]
  exact State.clampDepth_le (s.envelope_nonneg ..) (henv k hk hc)

/-- Settles O39: the mark is left as `State.markAfter` has it, whose position is `State.positionOf`; a position other
than CLEAR is what makes a mark near. -/
theorem targetsStayUnderTheEnvelope : Obligations.TargetsStayUnderTheEnvelope := by
  intro x s k hrun hauto hk
  refine ⟨_, exec_sideIntervalExpiry_auto hrun hauto, s.markAfter x (s.referenceDepth x) k, ?_, ?_⟩
  · rw [State.nextSidePeriod_plan, State.autoInterval_plan]
    exact List.mem_map_of_mem hk
  rw [State.nextSidePeriod_side, State.autoInterval_context]
  refine ⟨s.markAfter_number .., s.markAfter_fields .., s.markAfter_position_other .., fun hstands => ?_,
    fun hvalid hcovers dref hrefers => ?_⟩
  · rw [State.markAfter_position, if_neg]
    rintro ⟨hvalid, hcovers⟩
    simp [hvalid, hcovers] at hstands
  obtain rfl := State.eq_referenceDepth_of_refersTo hrefers
  rw [State.markAfter_position, if_pos ⟨hvalid, hcovers⟩]
  intro env
  have hnear (h : s.positionOf (s.referenceDepth x) k.fields = .approach ∨
      s.positionOf (s.referenceDepth x) k.fields = .isProtected) :
      (s.contextAfter x).basis = .depth ∧ (s.contextAfter x).depthTarget ≤ env := by
    have hne : s.positionOf (s.referenceDepth x) k.fields ≠ .clear := by
      obtain h | h := h <;> rw [h] <;> decide
    obtain ⟨hbasis, htarget⟩ := State.control_of_near ((s.markNear_iff ..).mpr
      ⟨hvalid, k, ⟨hk, hcovers⟩, (s.positionOf_ne_clear ..).mp hne⟩)
    exact ⟨hbasis, htarget k hk hcovers⟩
  obtain ⟨hin, hpos⟩ | ⟨hout, henv, hpos⟩ | ⟨hout, henv, hpos⟩ := s.positionOf_cases (s.referenceDepth x) k.fields
  · exact ⟨fun _ => hpos, fun hout => absurd hin hout, fun hout => absurd hin hout, hnear⟩
  · exact ⟨fun hin => absurd hin hout, fun _ _ => hpos, fun _ hle => absurd henv (Int.not_lt.mpr hle), hnear⟩
  · exact ⟨fun hin => absurd hin hout, fun _ hlt => absurd hlt (Int.not_lt.mpr henv), fun _ _ => hpos, hnear⟩

/-! ### The profile offer (R70) -/

/-- A fold with `minLimit` over `some` values finds their least, or nothing when there are none. -/
theorem foldl_minLimit {α : Type} (f : α → Nat) (l : List α) (start : Option Nat) :
    l.foldl (fun low a => minLimit low (some (f a))) start = (start.toList ++ l.map f).min? := by
  induction l generalizing start with
  | nil => cases start <;> rfl
  | cons a l ih =>
    cases start with
    | none => exact ih (some (f a))
    | some b => exact (ih (some (min b (f a)))).trans (by rw [List.map_cons]; rfl)

/-- The offer is the least limit of the marks the drum is inside of, and none where there are none. -/
theorem State.offerOf_eq_some (x : Side) (dref : Int) (s : State) (v : Nat) : s.offerOf x dref = some v ↔
    (∃ k ∈ s.plan.marks, s.insideNow x dref k.fields = true ∧
      speedLimit s.activeBank.raiseMax (s.gradient k.fields) = v) ∧
    ∀ k ∈ s.plan.marks, s.insideNow x dref k.fields = true →
      v ≤ speedLimit s.activeBank.raiseMax (s.gradient k.fields) := by
  unfold State.offerOf
  cases hvalid : s.station.valid with
  | false => simp [State.insideNow, hvalid]
  | true =>
    have hmem : ∀ f, f ∈ (s.covering x).filter (fun m => s.inRegion dref m) ↔
        ∃ k ∈ s.plan.marks, s.insideNow x dref k.fields = true ∧ k.fields = f := fun f => by
      simp only [List.mem_filter, State.mem_covering, State.insideNow, hvalid, Bool.and_true, Bool.and_eq_true]
      constructor
      · rintro ⟨⟨k, hk, hc, rfl⟩, hin⟩
        exact ⟨k, hk, ⟨hc, hin⟩, rfl⟩
      · rintro ⟨k, hk, ⟨hc, hin⟩, rfl⟩
        exact ⟨⟨k, hk, hc, rfl⟩, hin⟩
    rw [if_pos rfl, foldl_minLimit, Option.toList_none, List.nil_append, List.min?_eq_some_iff]
    refine and_congr ?_ ?_
    · simp only [List.mem_map, hmem]
      constructor
      · rintro ⟨_, ⟨k, hk, hin, rfl⟩, heq⟩
        exact ⟨k, hk, hin, heq⟩
      · rintro ⟨k, hk, hin, heq⟩
        exact ⟨_, ⟨k, hk, hin, rfl⟩, heq⟩
    · simp only [List.forall_mem_map, hmem]
      exact ⟨fun h k hk hin => h _ ⟨k, hk, hin, rfl⟩, fun h _ ⟨k, hk, hin, heq⟩ => heq ▸ h k hk hin⟩

/-! ### The announcements (R71) -/

/-- Raising a notice a number of times counts each time, and latches it once there is one. -/
theorem State.raiseTimes_notice (n : Notice) (k : Nat) (s : State) :
    ((s.raiseTimes n k).notice n).count = (s.notice n).count + BitVec.ofNat 8 k ∧
    ((s.notice n).latch = true ∨ k ≠ 0 → ((s.raiseTimes n k).notice n).latch = true) := by
  induction k generalizing s with
  | zero => exact ⟨(BitVec.add_zero _).symm, fun h => h.resolve_right (fun h => h rfl)⟩
  | succ k ih =>
    obtain ⟨hcount, hlatch⟩ := ih (s.raiseNotice n)
    rw [State.raiseNotice_notice] at hcount hlatch
    refine ⟨hcount.trans ?_, fun _ => hlatch (.inl rfl)⟩
    dsimp only
    rw [BitVec.add_assoc, Nat.add_comm k, BitVec.ofNat_add]
    rfl

/-- A side interval in AUTO raises MARK_AHEAD once for each mark it announces. -/
theorem State.autoInterval_markAhead (x : Side) (s : State) :
    let news := s.plan.marks.filter (s.announces x (s.referenceDepth x))
    ((s.autoInterval x).notice .markAhead).count = (s.notice .markAhead).count + BitVec.ofNat 8 news.length ∧
      (news ≠ [] → ((s.autoInterval x).notice .markAhead).latch = true) ∧
      (news = [] → (s.autoInterval x).notice .markAhead = s.notice .markAhead) := by
  intro news
  rw [State.autoInterval_eq, State.setSide_notice, State.computeTarget]
  generalize hcomputed : ({ s.setContext x (s.contextAfter x) with
    plan.marks := s.plan.marks.map (s.markAfter x (s.referenceDepth x)) } : State) = t
  have hsame : t.notice .markAhead = s.notice .markAhead := by
    rw [← hcomputed]
    exact State.setSide_notice ..
  obtain ⟨hcount, hlatch⟩ := t.raiseTimes_notice .markAhead news.length
  rw [hsame] at hcount
  refine ⟨hcount, fun hnews => hlatch (.inr (mt List.length_eq_zero_iff.mp hnews)), fun hnews => ?_⟩
  have hlength : (s.plan.marks.filter (s.announces x (s.referenceDepth x))).length = 0 :=
    List.length_eq_zero_iff.mpr hnews
  rw [hlength]
  exact hsame

theorem Mark.insideEither (x : Side) (m : Mark) :
    (m.memory.insideLeft || m.memory.insideRight) = (m.inside x || m.inside (otherSide x)) := by
  cases x with
  | left => rfl
  | right => exact Bool.or_comm _ _

/-- Settles O40: the offer is the least of the limits inside, each mark is left as `State.markAfter` has it, and the
marks newly announced are those `State.announces` finds. -/
theorem offersAndAnnouncements : Obligations.OffersAndAnnouncements := by
  intro x s hrun hauto
  refine ⟨_, exec_sideIntervalExpiry_auto hrun hauto, ?_⟩
  rw [State.nextSidePeriod_side, State.autoInterval_context, State.nextSidePeriod_plan, State.autoInterval_plan]
  intro dref hrefers inside limit
  obtain rfl := State.eq_referenceDepth_of_refersTo hrefers
  have hinside : ∀ k, s.insideNow x (s.referenceDepth x) k = true ↔ inside k :=
    fun k => s.insideNow_iff (s.referenceDepth x) k x
  refine ⟨fun v => ?_, ⟨s.markAfter x (s.referenceDepth x), rfl, fun k _ => ?_⟩,
    s.plan.marks.filter (s.announces x (s.referenceDepth x)), List.filter_sublist, fun k hk => ?_, ?_⟩
  · refine (s.offerOf_eq_some x _ v).trans ?_
    simp only [hinside]
    rfl
  · have hannounced := State.markAfter_announced s x (s.referenceDepth x) k
    have hin := State.markAfter_inside s x (s.referenceDepth x) k
    have hother := State.markAfter_inside_other s x (s.referenceDepth x) k
    rw [Mark.insideEither x, hin, hother] at hannounced
    refine ⟨s.markAfter_number .., s.markAfter_fields .., ?_, hother, fun hyes => ?_, fun hno hout => ?_,
      fun hno hout => ?_⟩
    · rw [hin, hinside]
    · rw [hannounced, (hinside _).mpr hyes, Bool.or_true, Bool.true_or, Bool.and_self]
    · rw [hannounced, Bool.eq_false_iff.mpr (mt (hinside _).mp hno), hout, Bool.or_self, Bool.and_false]
    · rw [hannounced, Bool.eq_false_iff.mpr (mt (hinside _).mp hno), hout, Bool.or_false, Bool.or_true, Bool.and_true]
  · rw [List.mem_filter, State.announces, Bool.and_eq_true, hinside, Bool.not_eq_true']
    exact ⟨fun h => h.2, fun h => ⟨hk, h⟩⟩
  · rw [State.notice, State.nextSidePeriod_notices]
    exact s.autoInterval_markAhead x

end Sys2Proof.Machine
end

section
/-! The conveyor interval (O48): each stage as a rewriting of the conveyor's records and of the notices told. -/
namespace Sys2Proof.Machine

/-! ### A notice told beside another conveyor record -/

/-- The state with other conveyor records. -/
def State.withConveyor (s : State) (c : Conveyor) : State := { s with conveyor := c }

section
variable (s : State) (c k : Conveyor) (n : Notice) (v : Bool)

@[simp] theorem State.withConveyor_conveyor : (s.withConveyor c).conveyor = c := rfl
@[simp] theorem State.withConveyor_station : (s.withConveyor c).station = s.station := rfl
@[simp] theorem State.withConveyor_again : (s.withConveyor c).withConveyor k = s.withConveyor k := rfl
@[simp] theorem State.withConveyor_beltPressure : (s.withConveyor c).beltPressure = s.beltPressure := rfl
@[simp] theorem State.withConveyor_measuredDepth (x : Side) : (s.withConveyor c).measuredDepth x = s.measuredDepth x := rfl

theorem State.mapConveyor_eq (f : Conveyor → Conveyor) : s.mapConveyor f = s.withConveyor (f s.conveyor) := rfl

theorem State.withConveyor_tellCause : (s.withConveyor c).tellCause n v = (s.tellCause n v).withConveyor c := by
  have hnotice : (s.withConveyor c).notice n = s.notice n := rfl
  simp only [State.tellCause, hnotice]
  split
  · split <;> rfl
  · rfl

theorem State.withConveyor_raiseNotice : (s.withConveyor c).raiseNotice n = (s.raiseNotice n).withConveyor c := rfl

end

/-! ### The cut, the block and the run-on (R157 to R159, R171)

Stage 6 sets the belt's speed from the state that stages 1 to 4 leave; what they set it to is not seen. -/

/-- A conveyor at another belt speed. -/
def Conveyor.atSpeed (c : Conveyor) (v : Nat) : Conveyor := { c with beltSpeed := v }

/-- Stages 1 and 2 but for the belt speed. -/
def Conveyor.cutTo (g : Geometry) (cut : Bool) (c : Conveyor) : Conveyor :=
  if (cut = true ∧ c.inCut = false) ∧ (c.state = .stopped ∧ g.autoStart = true ∨ c.state = .runOn) then
    { c with inCut := cut, state := .running, runOnSpeed := none, runOnCount := 0 }
  else if (cut = false ∧ c.inCut = true) ∧ c.state = .running then
    { c with inCut := cut, state := .runOn, runOnSpeed := some c.beltSpeed, runOnCount := g.runOnTime }
  else { c with inCut := cut }

/-- Stage 3 for a block count of `judged`. -/
def Conveyor.blockTo (judged : Nat) (c : Conveyor) : Conveyor :=
  if c.state = .running ∨ c.state = .runOn then
    if 10 ≤ judged then c.stand .blocked else { c with blockCount := judged }
  else c

/-- Stage 4 on records that stood as `was` at the expiry. -/
def Conveyor.runOnTo (was c : Conveyor) : Conveyor :=
  if was.state = .runOn ∧ c.state = .runOn ∧ was.runOnCount = 1 then c.stand .stopped
  else if was.state = .runOn ∧ c.state = .runOn then { c with runOnCount := c.runOnCount - 1 }
  else c

/-- Only the belt's motion and its counts differ: the material, the truck and the settings stand. -/
def Conveyor.MovedFrom (c k : Conveyor) : Prop := ∃ state speed runOnSpeed runOnCount blockCount inCut, k = { c with
  state := state, beltSpeed := speed, runOnSpeed := runOnSpeed, runOnCount := runOnCount, blockCount := blockCount
  inCut := inCut }

theorem Conveyor.MovedFrom.trans {a b c : Conveyor} (h : a.MovedFrom b) (h' : b.MovedFrom c) : a.MovedFrom c := by
  obtain ⟨_, _, _, _, _, _, rfl⟩ := h
  obtain ⟨_, _, _, _, _, _, rfl⟩ := h'
  exact ⟨_, _, _, _, _, _, rfl⟩

section
variable (g : Geometry) (cut : Bool) (judged : Nat) (was c : Conveyor)

theorem Conveyor.cutTo_inCut : (c.cutTo g cut).inCut = cut := by
  unfold cutTo
  split
  · rfl
  · split <;> rfl

theorem Conveyor.cutTo_moved : c.MovedFrom (c.cutTo g cut) := by
  unfold cutTo
  split
  · exact ⟨_, _, _, _, _, _, rfl⟩
  · split <;> exact ⟨_, _, _, _, _, _, rfl⟩

theorem Conveyor.blockTo_moved : c.MovedFrom (c.blockTo judged) := by
  unfold blockTo
  split
  · split <;> exact ⟨_, _, _, _, _, _, rfl⟩
  · exact ⟨_, _, _, _, _, _, rfl⟩

theorem Conveyor.runOnTo_moved : c.MovedFrom (was.runOnTo c) := by
  unfold runOnTo
  split
  · exact ⟨_, _, _, _, _, _, rfl⟩
  · split <;> exact ⟨_, _, _, _, _, _, rfl⟩

theorem Conveyor.blockTo_inCut : (c.blockTo judged).inCut = c.inCut := by
  unfold blockTo
  split
  · split <;> rfl
  · rfl

theorem Conveyor.runOnTo_inCut : (was.runOnTo c).inCut = c.inCut := by
  unfold runOnTo
  split
  · rfl
  · split <;> rfl

/-- A run-on that goes on through the cut and the block keeps its count. -/
theorem Conveyor.runOnCount_stands (hwas : c.state = .runOn) (h : ((c.cutTo g cut).blockTo judged).state = .runOn) :
    ((c.cutTo g cut).blockTo judged).runOnCount = c.runOnCount := by
  have hcut : (c.cutTo g cut).state = .runOn → (c.cutTo g cut).runOnCount = c.runOnCount := by
    unfold cutTo
    split
    · nofun
    · split
      · next hleaves => exact absurd (hwas.symm.trans hleaves.2) (by decide)
      · exact fun _ => rfl
  revert h
  unfold blockTo
  split
  · split
    · nofun
    · exact hcut
  · exact hcut

end

section
variable {s : State}

/-- The state, the judgment before, the judgment now and auto start name the branch of stages 1 and 2. -/
theorem State.conveyorCut_eq {cut : Bool} (hcut : s.judgeInCut s.conveyor.inCut = cut) :
    ∃ v, s.conveyorCut = s.withConveyor ((s.conveyor.cutTo s.station.geometry cut).atSpeed v) := by
  simp only [State.conveyorCut, hcut, State.mapConveyor_eq, Conveyor.cutTo]
  generalize s.conveyor = c
  obtain ⟨state, _, _, _, _, _, _, _, before, _⟩ := c
  cases hauto : s.station.geometry.autoStart <;> cases state <;> cases before <;> cases cut <;> exact ⟨_, rfl⟩

theorem State.conveyorBlock_eq (c : Conveyor) (v : Nat) :
    let judged := blockCountAfter s.beltPressure s.station.geometry.blockPressure c.blockCount
    ∃ v', (s.withConveyor (c.atSpeed v)).conveyorBlock =
      (if (c.state = .running ∨ c.state = .runOn) ∧ 10 ≤ judged then s.tellCause .beltBlocked true else s).withConveyor
        ((c.blockTo judged).atSpeed v') := by
  intro judged
  have hlimit : Config.blockIntervals = 10 := rfl
  have hjudged : blockCountAfter s.beltPressure s.station.geometry.blockPressure (c.atSpeed v).blockCount = judged := rfl
  have hturn : (c.atSpeed v).turning = c.turning := rfl
  unfold State.conveyorBlock
  dsimp only
  rw [State.withConveyor_conveyor, State.withConveyor_beltPressure, State.withConveyor_station, hjudged, hturn]
  by_cases hturning : c.state = .running ∨ c.state = .runOn
  · rw [if_pos (Conveyor.turning_iff.mpr hturning), Conveyor.blockTo, if_pos hturning, hlimit]
    by_cases hblock : 10 ≤ judged
    · rw [if_pos hblock, if_pos hblock, if_pos ⟨hturning, hblock⟩]
      exact ⟨0, s.withConveyor_tellCause ((c.stand .blocked).atSpeed 0) .beltBlocked true⟩
    · rw [if_neg hblock, if_neg hblock, if_neg (fun h => hblock h.2)]
      exact ⟨v, rfl⟩
  · rw [if_neg (mt Conveyor.turning_iff.mp hturning), Conveyor.blockTo, if_neg hturning, if_neg (fun h => hturning h.1)]
    exact ⟨v, rfl⟩

theorem State.conveyorRunOn_eq {was c : Conveyor} (v : Nat)
    (hcount : was.state = .runOn → c.state = .runOn → c.runOnCount = was.runOnCount ∧ 1 ≤ was.runOnCount) :
    ∃ v', (s.withConveyor (c.atSpeed v)).conveyorRunOn was.state = s.withConveyor ((was.runOnTo c).atSpeed v') := by
  have hstate : (c.atSpeed v).state = c.state := rfl
  have hroc : (c.atSpeed v).runOnCount = c.runOnCount := rfl
  unfold State.conveyorRunOn
  rw [State.withConveyor_conveyor, hstate, hroc]
  by_cases hboth : was.state = .runOn ∧ c.state = .runOn
  · obtain ⟨hsame, hpos⟩ := hcount hboth.1 hboth.2
    rw [if_pos (by simpa using hboth), Conveyor.runOnTo]
    by_cases hlast : was.runOnCount = 1
    · rw [if_pos (by omega), if_pos ⟨hboth.1, hboth.2, hlast⟩]
      exact ⟨0, rfl⟩
    · rw [if_neg (by omega), if_neg (fun h => hlast h.2.2), if_pos hboth]
      exact ⟨v, rfl⟩
  · rw [if_neg (by simpa using hboth), Conveyor.runOnTo, if_neg (fun h => hboth ⟨h.1, h.2.1⟩), if_neg hboth]
    exact ⟨v, rfl⟩

end

/-! ### The inflow and the speeds (R162 to R164) -/

section
variable {s : State} {g : Geometry}

/-- The needed speed, its quotients rounded up written out. -/
theorem neededSpeedOf_eq (hg : g.inRange = true) (q : Nat) : neededSpeedOf g q =
    bringWithinNat g.beltMin g.beltMax (((q * 100 + (g.beltLoad - 1)) / g.beltLoad * (100 + g.beltMargin) + 99) / 100) := by
  have hload : 0 < g.beltLoad := by
    simp only [Geometry.inRange, Bool.and_eq_true, decide_eq_true_eq] at hg
    omega
  rw [neededSpeedOf, divUp_eq hload, divUp_eq (by decide)]

/-- The belt's speed once the needed speed is formed. -/
theorem Conveyor.speedNow_eq {c : Conveyor} {needed : Nat} (beltMin : Nat) (h : c.neededSpeed = some needed) :
    c.speedNow beltMin = match c.state with
      | .running => if c.beltMode = .fixed then c.fixedSpeed else needed
      | .runOn => c.runOnSpeed.getD 0
      | _ => 0 := by
  have hrunning : c.runningSpeed beltMin = if c.beltMode = .fixed then c.fixedSpeed else needed := by
    unfold runningSpeed
    cases c.beltMode with
    | auto => simp [h]
    | fixed => rfl
  unfold speedNow
  cases c.state <;> first | rfl | exact hrunning

/-- The material of one interval, with the totals as an overflow of the milled total leaves them. -/
theorem Conveyor.account_eq (q cap housing : Nat) (c : Conveyor) :
    let out := min (c.fill + q) cap
    let rest := c.fill + q - out
    let cleared : Prop := 999999999999 < c.milled + q
    c.account q cap housing = { c with
      fill := min rest housing
      spill := if cleared then 0 else c.spill + (rest - housing)
      milled := if cleared then min rest housing else c.milled + q
      delivered := if cleared then 0 else c.delivered + out
      truckCounter := min 999999999 (c.truckCounter + out) } := by
  intro out rest cleared
  have hmax : Config.milledMax = 999999999999 := rfl
  unfold account
  dsimp only
  rw [hmax]
  by_cases hcleared : cleared
  · rw [if_pos hcleared, if_pos hcleared, if_pos hcleared, if_pos hcleared]
    rfl
  · rw [if_neg hcleared, if_neg hcleared, if_neg hcleared, if_neg hcleared]
    rfl

end

/-! ### The fill, the latch and the truck (R165 to R168) -/

section
variable (s : State) (k : Conveyor)

/-- Stages 5 and 6 but for the inflow, which is formed of the records before them. -/
theorem State.conveyorSpeed_eq (v : Nat) (hg : s.station.geometry.inRange = true) :
    let g := s.station.geometry
    let q := (s.withConveyor k).inflow
    let needed := bringWithinNat g.beltMin g.beltMax
      (((q * 100 + (g.beltLoad - 1)) / g.beltLoad * (100 + g.beltMargin) + 99) / 100)
    (s.withConveyor (k.atSpeed v)).conveyorSpeed = s.withConveyor { k with
      lastInflow := q, neededSpeed := some needed
      beltSpeed := match k.state with
        | .running => if k.beltMode = .fixed then k.fixedSpeed else needed
        | .runOn => k.runOnSpeed.getD 0
        | _ => 0 } := by
  intro g q needed
  have hq : (s.withConveyor (k.atSpeed v)).inflow = q := rfl
  have hneeded : neededSpeedOf g q = needed := neededSpeedOf_eq hg q
  simp only [State.conveyorSpeed, State.mapConveyor_eq, hq, State.withConveyor_station, State.withConveyor_again,
    State.withConveyor_conveyor]
  rw [show s.station.geometry = g from rfl, hneeded]
  exact congrArg (fun speed => s.withConveyor { k with
    lastInflow := q, neededSpeed := some needed, beltSpeed := speed }) (Conveyor.speedNow_eq g.beltMin rfl)

/-- Stage 7 on records whose inflow and belt speed are formed. -/
theorem State.conveyorFill_eq :
    let g := s.station.geometry
    let cap := k.beltSpeed * g.beltLoad / 100
    let filled := k.account k.lastInflow cap g.housingCapacity
    (s.withConveyor k).conveyorFill =
      ((if k.fill < g.housingCapacity ∧ g.housingCapacity < k.fill + k.lastInflow - min (k.fill + k.lastInflow) cap then
          s.raiseNotice .spill else s).tellCause .truckFull
        (0 < filled.truckTarget && filled.truckTarget * 100 ≤ filled.truckCounter)).withConveyor filled := by
  intro g cap filled
  have hoverflows : k.overflows k.lastInflow cap g.housingCapacity = true ↔
      k.fill < g.housingCapacity ∧ g.housingCapacity < k.fill + k.lastInflow - min (k.fill + k.lastInflow) cap := by
    simp only [Conveyor.overflows, Bool.and_eq_true, decide_eq_true_eq]
  have hfilled : (s.withConveyor k).mapConveyor (Conveyor.account k.lastInflow cap g.housingCapacity) =
      s.withConveyor filled := rfl
  have htold (u : State) : (u.withConveyor filled).tellTruckFull = (u.tellCause .truckFull
      (0 < filled.truckTarget && filled.truckTarget * 100 ≤ filled.truckCounter)).withConveyor filled :=
    State.withConveyor_tellCause ..
  unfold State.conveyorFill
  dsimp only
  rw [State.withConveyor_conveyor, State.withConveyor_station, capacityOf, hfilled]
  by_cases h : k.overflows k.lastInflow cap g.housingCapacity = true
  · rw [if_pos h, if_pos (hoverflows.mp h), State.withConveyor_raiseNotice, htold]
  · rw [if_neg h, if_neg (mt hoverflows.mpr h), htold]

theorem State.reviewLatch_eq :
    let latch := latchAfter s.station.geometry k.fill k.fillLatch
    (s.withConveyor k).reviewLatch = (s.tellCause .fillHigh latch).withConveyor { k with fillLatch := latch } :=
  State.withConveyor_tellCause s ..

theorem State.truckDecision_eq :
    (s.withConveyor k).truckDecision = s.withConveyor
      (if (0 < k.truckTarget && k.truckTarget * 100 ≤ k.truckCounter) = true ∧ s.station.geometry.holdOnFull = true ∧
          (k.state = .running ∨ k.state = .runOn) then k.stand .held else k) := by
  have hholds : ((s.withConveyor k).truckFull && (s.withConveyor k).station.geometry.holdOnFull &&
      (s.withConveyor k).conveyor.turning) = true ↔
      (0 < k.truckTarget && k.truckTarget * 100 ≤ k.truckCounter) = true ∧ s.station.geometry.holdOnFull = true ∧
        (k.state = .running ∨ k.state = .runOn) := by
    rw [Bool.and_eq_true, Bool.and_eq_true, and_assoc, ← Conveyor.turning_iff]
    rfl
  unfold State.truckDecision
  by_cases h : (s.withConveyor k).truckFull && (s.withConveyor k).station.geometry.holdOnFull &&
      (s.withConveyor k).conveyor.turning
  · rw [if_pos h, if_pos (hholds.mp h)]
    rfl
  · rw [if_neg h, if_neg (mt hholds.mpr h)]

end

/-- The inflow of an interval, by what the sides measure. -/
theorem State.inflow_eq (s : State) (k : Conveyor) :
    let inflow (dm : Nat) : Nat :=
      dm * Config.drumWidth s.station.drumClass * s.station.speed.toNat / 10000 * s.station.geometry.swell / 10000
    (s.withConveyor k).inflow = if k.inCut = false ∨ s.station.speed ≤ 0 then 0 else
      match s.measuredDepth .left, s.measuredDepth .right with
      | some a, some b => inflow ((a.toNat + b.toNat) / 2)
      | some a, none => inflow a.toNat
      | none, some b => inflow b.toNat
      | none, none => k.lastInflow := by
  intro inflow
  have hidle : (!k.inCut || decide (s.station.speed ≤ 0)) = true ↔ k.inCut = false ∨ s.station.speed ≤ 0 := by
    rw [Bool.or_eq_true, Bool.not_eq_true', decide_eq_true_eq]
  by_cases h : k.inCut = false ∨ s.station.speed ≤ 0
  · exact (if_pos (hidle.mpr h)).trans (if_pos h).symm
  · refine (if_neg (mt hidle.mp h)).trans (Eq.trans ?_ (if_neg h).symm)
    simp only [State.withConveyor_conveyor, State.withConveyor_station, State.withConveyor_measuredDepth]
    cases s.measuredDepth .left <;> cases s.measuredDepth .right <;> rfl

/-! ### The nine stages together -/

/-- The in-cut judgment of an interval, from what the obligation says of it. -/
theorem State.judgeInCut_eq {s : State} {cut : Bool}
    (htrue : (∃ x d, s.measuredDepth x = some d ∧ (s.station.geometry.inCutThreshold : Int) ≤ d) → cut = true)
    (hfalse : (∃ x, s.measuredDepth x ≠ none) →
      (∀ x d, s.measuredDepth x = some d → d < s.station.geometry.inCutThreshold) → cut = false)
    (hnone : (∀ x, s.measuredDepth x = none) → cut = s.conveyor.inCut) :
    s.judgeInCut s.conveyor.inCut = cut := by
  by_cases hsome : ∃ x, s.measuredDepth x ≠ none
  · by_cases hreached : ∃ x d, s.measuredDepth x = some d ∧ (s.station.geometry.inCutThreshold : Int) ≤ d
    · obtain ⟨x, d, hx, hd⟩ := hreached
      rw [State.judgeInCut_of_threshold_le _ hx hd, htrue ⟨x, d, hx, hd⟩]
    · have hlt : ∀ x d, s.measuredDepth x = some d → d < s.station.geometry.inCutThreshold :=
        fun x d hx => Int.not_le.mp fun hd => hreached ⟨x, d, hx, hd⟩
      rw [State.judgeInCut_of_lt_threshold _ hsome hlt, hfalse hsome hlt]
  · have hall : ∀ x, s.measuredDepth x = none := fun x => Classical.not_not.mp fun hx => hsome ⟨x, hx⟩
    rw [State.judgeInCut_of_unmeasured _ hall, hnone hall]

/-- Stages 1 to 4 move the belt, and tell a block where one is judged. -/
theorem State.conveyorMoved_eq {s : State} {cut : Bool} (hcut : s.judgeInCut s.conveyor.inCut = cut)
    (hmat : MaterialOk s) :
    let c₂ := s.conveyor.cutTo s.station.geometry cut
    let judged := blockCountAfter s.beltPressure s.station.geometry.blockPressure c₂.blockCount
    let c₃ := c₂.blockTo judged
    let s₃ := if (c₂.state = .running ∨ c₂.state = .runOn) ∧ 10 ≤ judged then s.tellCause .beltBlocked true else s
    s.conveyorFirst.conveyor.state = c₃.state ∧
      ∃ v, s.conveyorFirst.conveyorRunOn s.conveyor.state = s₃.withConveyor ((s.conveyor.runOnTo c₃).atSpeed v) := by
  intro c₂ judged c₃ s₃
  obtain ⟨v₂, hstage₂⟩ := State.conveyorCut_eq hcut
  obtain ⟨v₃, hstage₃⟩ := s.conveyorBlock_eq c₂ v₂
  have hfirst : s.conveyorFirst = s₃.withConveyor (c₃.atSpeed v₃) := (congrArg State.conveyorBlock hstage₂).trans hstage₃
  refine ⟨congrArg (fun u : State => u.conveyor.state) hfirst, ?_⟩
  rw [hfirst]
  exact State.conveyorRunOn_eq v₃ fun hwas hon =>
    ⟨Conveyor.runOnCount_stands _ _ _ _ hwas hon, ((materialOk_iff.mp hmat).runOn hwas).2.1⟩

/-- Settles O48: each stage rewrites the records as its lemma says, and the notices are told as the stages come. -/
theorem conveyorIntervalsWorkThroughTheStages : Obligations.ConveyorIntervalsWorkThroughTheStages := by
  intro s cut hrun hst hmat c g W v htrue hfalse hnone standing enters leaves c₂ judged turning c₃ ends c₄ inflow q n₁ n₂
    needed belt out rest cleared fill counter full latch c₈ holds s₃ s₇ t
  obtain ⟨hstate₃, v₄, hstage₄⟩ := State.conveyorMoved_eq (State.judgeInCut_eq htrue hfalse hnone) hmat
  have hmoved : c.MovedFrom c₄ :=
    ((c.cutTo_moved g cut).trans (Conveyor.blockTo_moved _ _)).trans (Conveyor.runOnTo_moved _ _)
  have hinCut : c₄.inCut = cut :=
    ((Conveyor.runOnTo_inCut _ _).trans (Conveyor.blockTo_inCut _ _)).trans (c.cutTo_inCut g cut)
  have hends : s.runOnDue = true ↔ ends := by
    have hpos : c.state = .runOn → 1 ≤ c.runOnCount := fun h => ((materialOk_iff.mp hmat).runOn h).2.1
    rw [State.runOnDue, Bool.and_eq_true, Bool.and_eq_true, decide_eq_true_eq, decide_eq_true_eq, decide_eq_true_eq,
      and_assoc, hstate₃]
    exact and_congr_right fun hrunOn => and_congr_right fun _ =>
      ⟨fun hle => Nat.le_antisymm hle (hpos hrunOn), fun heq => Nat.le_of_eq heq⟩
  replace hstage₄ : s.conveyorFirst.conveyorRunOn s.conveyor.state = s₃.withConveyor (c₄.atSpeed v₄) := hstage₄
  have hstation : s₃.station = s.station := by
    unfold s₃
    split <;> simp
  have htimers : s₃.timers = s.timers := by
    unfold s₃
    split <;> simp
  have hdepth : ∀ x, s₃.measuredDepth x = s.measuredDepth x := fun x => by
    unfold s₃
    split <;> simp
  clear_value c₄
  obtain ⟨hmode, hfixed, hlast⟩ : c₄.beltMode = c.beltMode ∧ c₄.fixedSpeed = c.fixedSpeed ∧
      c₄.lastInflow = c.lastInflow := by
    obtain ⟨_, _, _, _, _, _, rfl⟩ := hmoved
    exact ⟨rfl, rfl, rfl⟩
  have hq : (s₃.withConveyor c₄).inflow = q := by
    rewrite [State.inflow_eq, hstation, hdepth, hdepth, hinCut, hlast]
    rfl
  have hspeed : (s.conveyorFirst.conveyorRunOn s.conveyor.state).conveyorSpeed = s₃.withConveyor { c₄ with
      lastInflow := q, neededSpeed := some needed, beltSpeed := belt } := by
    rw [hstage₄, State.conveyorSpeed_eq s₃ c₄ v₄ (hstation ▸ hst.2.2), hq, hstation]
    exact congrArg (fun b => s₃.withConveyor { c₄ with lastInflow := q, neededSpeed := some needed, beltSpeed := b })
      (by rw [hmode, hfixed]; rfl)
  have hinterval : s.conveyorInterval =
      ((s₇.tellCause .truckFull full).tellCause .fillHigh latch).withConveyor
        (if holds then standing .held c₈ else c₈) := by
    obtain ⟨state, speed, runOnSpeed, runOnCount, blockCount, inCut, rfl⟩ := hmoved
    rw [State.conveyorInterval, hspeed, State.conveyorFill_eq, Conveyor.account_eq, State.reviewLatch_eq,
      State.truckDecision_eq]
    simp only [State.tellCause_station, apply_ite State.station, State.raiseNotice_station, ite_self, hstation]
    rfl
  have hnext : ({ s.conveyorInterval with timers.conveyor := Config.conveyorMs } : State) = t := by
    have htold : ((s₇.tellCause .truckFull full).tellCause .fillHigh latch).timers = s.timers := by
      simp only [s₇, State.tellCause_timers, apply_ite State.timers, State.raiseNotice_timers, ite_self, htimers]
    rw [hinterval]
    exact congrArg (fun u : IntervalTimers => ({ ((s₇.tellCause .truckFull full).tellCause .fillHigh latch).withConveyor
      (if holds then standing .held c₈ else c₈) with timers := { u with conveyor := 100 } } : State)) htold
  have hexec : exec .conveyorIntervalExpiry s = .next t := by
    have hexec : exec .conveyorIntervalExpiry s =
        .next (s.whileRunning { s.conveyorInterval with timers.conveyor := Config.conveyorMs }) := rfl
    rw [hexec, State.whileRunning_running hrun, hnext]
  have hexec' : exec .runOnExpiry s = .next (if s.runOnDue then t else s) := by
    have hexec : exec .runOnExpiry s = .next (s.whileRunning
        (if s.runOnDue then { s.conveyorInterval with timers.conveyor := Config.conveyorMs } else s)) := rfl
    rw [hexec, State.whileRunning_running hrun, hnext]
  refine ⟨hexec, fun h => ?_, fun h => ?_⟩
  · rw [hexec', if_pos (hends.mpr h)]
  · rw [hexec', if_neg (mt hends.mp h)]

end Sys2Proof.Machine
end

section
/-! A millisecond on an empty queue (O2), the machine after reset (O3), the geometry record (O17) and the station's
requests (O18). -/
namespace Sys2Proof.Machine

/-- Settles O2: a running time is one less, and none while a reset is held. -/
theorem emptyQueuePassesOneMillisecond : Obligations.EmptyQueuePassesOneMillisecond := by
  intro s hempty
  refine ⟨s.passMs, by rw [step, hempty], fun hheld => ?_, fun hrun => ?_⟩
  · rw [State.passMs_eq, State.whileRunning_held hheld]
  · rw [State.passMs_eq, State.whileRunning_running hrun]
    exact ⟨s.lessMs_channel, rfl, rfl, rfl, rfl, rfl, rfl, rfl, rfl, rfl, rfl, rfl, rfl, rfl, rfl⟩

/-! ### The machine right after reset -/

/-- Its blocks are those of a cold reset. -/
theorem State.reset_coldBlocks : State.reset.coldBlocks false false false false = State.reset := rfl

theorem State.reset_notice (n : Notice) : State.reset.notice n = if n = .coldStart then ⟨true, false, false, 1⟩
    else ⟨false, false, false, 0⟩ := by
  cases n <;> rfl

/-- Settles O3: each block after reset keeps its own law, and COLD_START is the one latch set. -/
theorem resetMeetsEveryLaw : Obligations.ResetMeetsEveryLaw := by
  obtain ⟨hzones, hmarks, hgov⟩ := resetPlan_ok (s := State.reset) rfl
  obtain ⟨hbacked, hsourced⟩ := State.idle_laws (s := State.reset) fun x => by cases x <;> rfl
  have hloops : State.reset.SidesLawful := fun x => by
    have hside : State.reset.side x = resetSide := by cases x <;> rfl
    rw [hside]
    exact resetSide_lawful _ _
  obtain ⟨hsides, hdemands, htargets⟩ := sideLaws_iff.mpr
    ⟨hloops, hbacked, hsourced, (by simp [State.OneSlope, State.reset, resetSide]), by rw [State.BanksOk]; decide⟩
  have hcause : ∀ n, (State.reset.notice n).cause = false := fun n => by
    rw [State.reset_notice]
    split <;> rfl
  exact {
    zones := hzones
    marks := hmarks
    governance := hgov
    station := resetStation_ok (s := State.reset) rfl
    channels := resetMonitor_ok (s := State.reset) rfl
    sides := hsides
    demands := hdemands
    targets := htargets
    governor := resetGovernor_ok (s := State.reset) rfl (by decide)
    material := materialOk_iff.mpr resetConveyor_ok
    causes := fun n => by
      rw [hcause, ← State.reset_coldBlocks]
      exact ⟨⟨nofun, fun h => absurd h (State.coldBlocks_condition false false false false State.reset n)⟩, nofun⟩
    alert := ⟨fun _ => ⟨rfl, .coldStart, rfl, rfl⟩, fun _ => rfl⟩
    link := (State.LinkRuns.reset (s := State.reset) rfl rfl).ok rfl
    timers := resetTimers_ok rfl }

/-! ### WRITE GEOMETRY (R33 to R35) -/

theorem writeGeometry_none {p : List Byte} (h : checkedGeometry p = none) (s : State) :
    writeGeometry p s = refuse .outOfRange s := by
  simp only [writeGeometry, h]

theorem writeGeometry_some {p : List Byte} {g : Geometry} (h : checkedGeometry p = some g) (s : State) :
    writeGeometry p s = taken (s.storeGeometry g) := by
  simp only [writeGeometry, h]

/-- The record is replaced, the fixed speed follows the belt's limits, what the housing no longer holds is spilt, and
the latch is judged afresh. -/
theorem State.storeGeometry_eq (g : Geometry) (s : State) :
    let c := s.conveyor
    let fill := min c.fill g.housingCapacity
    let latch := latchAfter g fill c.fillLatch
    let t : State := { s with
      station.geometry := g
      conveyor := { c with
        fixedSpeed := bringWithinNat g.beltMin g.beltMax c.fixedSpeed
        fill := fill
        spill := c.spill + (c.fill - g.housingCapacity)
        fillLatch := latch } }
    s.storeGeometry g = (if g.housingCapacity < c.fill then t.raiseNotice .spill else t).tellCause .fillHigh latch := by
  intro c fill latch t
  unfold State.storeGeometry State.spillExcess
  dsimp only
  by_cases hover : g.housingCapacity < c.fill
  · have hfill : fill = g.housingCapacity := Nat.min_eq_right (Nat.le_of_lt hover)
    rw [if_pos hover, if_pos hover]
    simp only [t, latch, hfill]
    rfl
  · have hfill : fill = c.fill := Nat.min_eq_left (Nat.not_lt.mp hover)
    have hspill : c.fill - g.housingCapacity = 0 := Nat.sub_eq_zero_of_le (Nat.not_lt.mp hover)
    rw [if_neg hover, if_neg hover]
    simp only [t, latch, hfill, hspill]
    rfl

/-- Settles O17. -/
theorem writeGeometryReplacesTheRecord : Obligations.WriteGeometryReplacesTheRecord := by
  intro r row s hserved p
  refine ⟨fun hnone => exec_refused hserved (writeGeometry_none hnone _), fun g hg => ?_⟩
  intro c fill latch t
  exact exec_taken hserved ((writeGeometry_some hg _).trans (congrArg taken (State.storeGeometry_eq g s.popped)))

/-! ### FIX STATION and SET TRAVEL SENSE (R43 to R45) -/

theorem State.underPlan_iff (s : State) : s.underPlan = true ↔
    ∃ x, (s.side x).state = .auto ∧ (s.side x).context.source = .plan := by
  simp only [State.underPlan, Bool.or_eq_true, Bool.and_eq_true, decide_eq_true_eq]
  exact ⟨fun h => h.elim (fun h => ⟨.left, h⟩) fun h => ⟨.right, h⟩, fun ⟨x, h⟩ => by
    cases x with
    | left => exact .inl h
    | right => exact .inr h⟩

/-- A fix that moves the station, or makes it valid, is handed on; the station is valid, so it is not lost. -/
theorem State.fixAt_eq (st : Nat) (s : State) :
    let t : State := { s with station := { s.station with station := st, fine := 0, valid := true } }
    s.fixAt st = if s.station.station = st ∧ s.station.valid = true then t
      else (t.reevaluate none).tellCause .stationInvalid false := by
  intro t
  have hchanged : s.fixAt st = t.stationChanged s.station := rfl
  have hlost : (t.reevaluate none).stationLost = false := by
    rw [State.stationLost, State.reevaluate_station]
    rfl
  rw [hchanged]
  obtain ⟨hst, hvalid, hsame⟩ | ⟨hmoved, hsame⟩ := t.stationChanged_cases s.station
  · rw [hsame, if_pos ⟨hst, hvalid⟩]
  · have hmarks : ({ t with plan := { t.plan with marks := (if s.station.valid && !t.station.valid
        then t.plan.marks.map Mark.forgetPosition else t.plan.marks) } } : State) = t := by
      rw [show t.station.valid = true from rfl, Bool.not_true, Bool.and_false]
      rfl
    rw [hsame, if_neg hmoved, hmarks, State.tellStationInvalid, hlost]

theorem senseOf_none {n : Nat} (h1 : n ≠ 1) (h2 : n ≠ 2) : senseOf n = none := by
  unfold senseOf
  split <;> simp_all

theorem senseOf_some {n : Nat} (h : n = 1 ∨ n = 2) :
    senseOf n = some (if n = 1 then .ascending else .descending) := by
  obtain rfl | rfl := h <;> rfl

theorem setTravelSense_none {p : List Byte} (h : senseOf (fieldAt p 0 1) = none) (s : State) :
    setTravelSense p s = refuse .outOfRange s := by
  simp only [setTravelSense, h]

theorem setTravelSense_some {p : List Byte} {v : Sense} (h : senseOf (fieldAt p 0 1) = some v) (s : State) :
    setTravelSense p s =
      if s.anyAuto then refuse .wrongState s else taken { s with station.sense := v } := by
  simp only [setTravelSense, h]

/-- Settles O18: a fix within the range and, under plan control on a valid station, within 200 cm is taken; the travel
sense is set while no side is in AUTO. -/
theorem stationRequestsMoveTheStation : Obligations.StationRequestsMoveTheStation := by
  have hmax : Config.stationMax = 9999999 := rfl
  have hwindow : Config.fixWindow = 200 := rfl
  refine ⟨fun r row s hserved => ?_, fun r row s hserved => ?_⟩
  · intro st planned far
    have hact : requestAct (.fixStation r) (r.body.take row.size) s.popped =
        if Config.stationMax < st then refuse .outOfRange s.popped
        else if s.station.valid && s.underPlan &&
            Config.fixWindow < ((st : Int) - (s.station.station : Int)).natAbs then refuse .fixTooFar s.popped
        else taken (s.popped.fixAt st) := rfl
    have hfar : (s.station.valid && s.underPlan &&
        decide (Config.fixWindow < ((st : Int) - (s.station.station : Int)).natAbs)) = true ↔
          s.station.valid = true ∧ planned ∧ far := by
      rw [Bool.and_eq_true, Bool.and_eq_true, s.underPlan_iff, decide_eq_true_eq, and_assoc]
      exact and_congr_right fun _ => and_congr_right fun _ => by omega
    refine ⟨fun h => exec_refused hserved (hact.trans (if_pos (by omega))), fun hle hvalid hplanned hdistant => ?_,
      fun hle hnear => ?_⟩
    · exact exec_refused hserved (hact.trans ((if_neg (by omega)).trans (if_pos (hfar.mpr ⟨hvalid, hplanned, hdistant⟩))))
    · intro t
      refine exec_taken hserved (hact.trans ((if_neg (by omega)).trans ((if_neg (mt hfar.mp hnear)).trans ?_)))
      exact congrArg taken (State.fixAt_eq st s.popped)
  · intro v auto
    have hauto : s.popped.anyAuto = true ↔ auto := s.anyAuto_iff
    refine ⟨fun h1 h2 => exec_refused hserved ?_, fun hv ha => exec_refused hserved ?_, fun hv ha => exec_taken hserved ?_⟩
    · exact setTravelSense_none (senseOf_none h1 h2) _
    · exact (setTravelSense_some (senseOf_some hv) _).trans (if_pos (hauto.mpr ha))
    · exact (setTravelSense_some (senseOf_some hv) _).trans (if_neg (mt hauto.mp ha))

end Sys2Proof.Machine
end

section
/-! The requests on a side: ENGAGE (O27), DISENGAGE (O30), JOG (O31), REFERENCE (O32), SET SIDE MODE and SET TRIM
(O33). -/
namespace Sys2Proof.Machine

/-! ### ENGAGE (R105, R106) -/

section
variable {s : State} {x : Side}

theorem engage_eq {p : List Byte} (hx : fieldAt p 0 1 = match x with | .left => 1 | .right => 2) (s : State) :
    engage p s =
      if (s.side x).state = .referencing then refuse .wrongState s
      else if (s.side x).state = .auto then taken s
      else if !s.isReferenced x then refuse .unreferenced s
      else if !s.roleLive (gradeRole x) then refuse .notLive s
      else if (s.side x).mode = .slope && !s.roleLive .crossSlope then refuse .notLive s
      else taken (s.enterAuto x) := withSide_side hx

/-- The loop of a side that enters AUTO is written once, the settle sequence restarted with it. -/
theorem State.enterAuto_eq (x : Side) (s : State) : s.enterAuto x = (s.setSide x { s.side x with
    state := .auto, lease := none, context := s.entryContext x
    settle := s.activeBank.firstStep s.station.speed [0, 1, 2] }).tellPlanGap.tellStationInvalid.tellSideFrozen := by
  cases x <;> rfl

/-- The entry context follows a zone in force, or holds the depth at the entry. -/
theorem State.entryContext_eq {m : Int} (hm : s.measuredDepth x = some m) :
    let d := s.side x
    let depth := s.clampDepth m
    let c : PlanContext := { d.context with
      planDepth := depth, override := none, offer := none
      heldSlope := if d.mode = .slope then s.crossSlope.getD d.context.heldSlope else d.context.heldSlope }
    s.entryContext x = if s.station.valid = true ∧ s.governingZone ≠ none
      then { c with source := .plan, entryDepth := depth, entryStation := s.station.station }
      else { c with source := .hold, holdDepth := depth } := by
  intro d depth c
  have hcut : s.cutDepth x = depth := by rw [State.cutDepth, hm, Option.getD_some]
  have hplanned : (s.station.valid && s.governingZone.isSome) = true ↔ s.station.valid = true ∧ s.governingZone ≠ none := by
    rw [Bool.and_eq_true, Option.isSome_iff_ne_none]
  unfold State.entryContext
  rw [hcut]
  by_cases h : s.station.valid = true ∧ s.governingZone ≠ none
  · exact (if_pos (hplanned.mpr h)).trans (if_pos h).symm
  · exact (if_neg (mt hplanned.mp h)).trans (if_neg h).symm

/-- Settles O27: the tests of ENGAGE in their order, then the entry into AUTO. -/
theorem engageEntersAuto : Obligations.EngageEntersAuto := by
  intro r row s hserved v
  refine ⟨fun h1 h2 => exec_refused hserved (withSide_none h1 h2), fun x hx => ?_⟩
  intro d sloped free
  have hact : requestAct (.engage r) (r.body.take row.size) s.popped = _ := engage_eq hx s.popped
  have hgrade : (!s.popped.roleLive (gradeRole x)) = true ↔ ¬ s.holdsLive (gradeRole x) := by
    rw [Bool.not_eq_true', ← Bool.not_eq_true, State.roleLive_iff]
    rfl
  have hslope : (decide ((s.popped.side x).mode = .slope) && !s.popped.roleLive .crossSlope) = true ↔ ¬ sloped := by
    rw [Bool.and_eq_true, decide_eq_true_eq, Bool.not_eq_true', ← Bool.not_eq_true, State.roleLive_iff]
    exact Classical.not_imp.symm
  have hauto : d.state = .auto → ¬ d.state = .referencing := fun ha hr => absurd (ha.symm.trans hr) (by decide)
  refine ⟨fun h => exec_refused hserved (hact.trans (if_pos h)),
    fun h => exec_taken hserved (hact.trans ((if_neg (hauto h)).trans (if_pos h))),
    fun hfree hzero => exec_refused hserved ?_, fun hfree hzero hlive => exec_refused hserved ?_,
    fun hfree hzero hlive hsloped m hm => ?_⟩
  all_goals replace hact := hact.trans ((if_neg hfree.1).trans (if_neg hfree.2))
  · exact hact.trans (if_pos (congrArg not hzero))
  all_goals replace hact := hact.trans (if_neg (ne_true_of_eq_false (congrArg not hzero)))
  · by_cases hg : s.holdsLive (gradeRole x)
    · exact hact.trans ((if_neg (Classical.not_not.mpr hg ∘ hgrade.mp)).trans (if_pos (hslope.mpr fun hs => hlive ⟨hg, hs⟩)))
    · exact hact.trans (if_pos (hgrade.mpr hg))
  · intro depth c planned
    have hcontext := State.entryContext_eq (s := s.popped) hm
    replace hact := hact.trans ((if_neg (Classical.not_not.mpr hlive ∘ hgrade.mp)).trans (if_neg (Classical.not_not.mpr hsloped ∘ hslope.mp)))
    refine ⟨s.popped.entryContext x, fun h => hcontext.trans (if_pos h), fun h => hcontext.trans (if_neg h), ?_⟩
    exact exec_taken hserved (hact.trans (congrArg taken (State.enterAuto_eq x s.popped)))

/-! ### DISENGAGE and JOG (R57, R106, R107) -/

/-- A side stopped, or moved to MANUAL, out of AUTO leaves the plan as it is; out of AUTO the marks lose its flag. -/
theorem State.disengageSide_plan (x : Side) (s : State) : (s.disengageSide x).plan =
    if (s.side x).state = .auto then { s.plan with marks := s.plan.marks.map (Mark.leftBy x) } else s.plan := by
  unfold State.disengageSide
  dsimp only
  cases hstate : (s.side x).state with
  | auto => exact State.leaveAuto_marks x .idle s
  | _ => simp [State.tellSideFrozen]

theorem State.toManual_plan (x : Side) (s : State) : (s.toManual x).plan =
    if (s.side x).state = .auto then { s.plan with marks := s.plan.marks.map (Mark.leftBy x) } else s.plan := by
  unfold State.toManual
  dsimp only
  cases hstate : (s.side x).state with
  | auto => exact State.leaveAuto_marks x .manual s
  | _ => simp [State.tellSideFrozen]

/-- A loop out of AUTO has no settle sequence, no override and no offer to lose. -/
theorem State.sideOk.leave_idle (h : s.sideOk x) (hne : (s.side x).state ≠ .auto) :
    ({ s.side x with
      settle := .abandoned
      context := { (s.side x).context with override := none, offer := none } } : SideLoop) = s.side x := by
  obtain ⟨-, -, -, -, hsettle, hoverride, hoffer, -⟩ := h
  have hover : (s.side x).context.override = none := by
    cases h : (s.side x).context.override with
    | none => rfl
    | some v => exact absurd (hoverride (by rw [h]; rfl)).1 hne
  have hoff : (s.side x).context.offer = none := by
    cases h : (s.side x).context.offer with
    | none => rfl
    | some v => exact absurd (hoffer (by rw [h]; rfl)) hne
  rw [← hsettle.mpr hne, ← hover, ← hoff]

/-- A lease stands in MANUAL only, and the referencing in REFERENCING only. -/
theorem State.sideOk.no_lease (h : s.sideOk x) (hne : (s.side x).state ≠ .manual) : (s.side x).lease = none := by
  obtain ⟨-, -, -, hlease, -⟩ := h
  cases hl : (s.side x).lease with
  | none => rfl
  | some l => exact absurd (hlease (by rw [hl]; rfl)) hne

theorem State.sideOk.no_referencing (h : s.sideOk x) (hne : (s.side x).state ≠ .referencing) :
    (s.side x).referencing = none := by
  obtain ⟨-, -, href, -⟩ := h
  cases hr : (s.side x).referencing with
  | none => rfl
  | some c => exact absurd (href.mp (by rw [hr]; rfl)) hne

/-- The loop that DISENGAGE stops. -/
theorem State.disengageSide_side (h : s.sideOk x) (hne : (s.side x).state ≠ .idle) : (s.disengageSide x).side x =
    { s.side x with
      state := .idle, demand := 0, lease := none, referencing := none, settle := .abandoned
      context := { (s.side x).context with override := none, offer := none } } := by
  have hstood : (s.side x).state ≠ .auto → (s.side x).standDown .idle 0 = { s.side x with
      state := .idle, demand := 0, lease := none, referencing := none, settle := .abandoned
      context := { (s.side x).context with override := none, offer := none } } :=
    fun hout => congrArg (SideLoop.standDown .idle 0) (h.leave_idle hout).symm
  unfold State.disengageSide
  dsimp only
  cases hstate : (s.side x).state with
  | idle => exact absurd hstate hne
  | auto =>
    rw [State.leaveAuto_side]
    have hlease := h.no_lease (by simp [hstate])
    have href := h.no_referencing (by simp [hstate])
    simp [hlease, href]
  | _ => simp [State.tellSideFrozen, hstood, hstate]

/-- Settles O30. -/
theorem disengageStopsTheSide : Obligations.DisengageStopsTheSide := by
  intro r row s hserved v
  refine ⟨fun h1 h2 => exec_refused hserved (withSide_none h1 h2), fun x hx hok => ?_⟩
  intro d
  have hact : requestAct (.disengage r) (r.body.take row.size) s.popped = taken (s.popped.disengageSide x) :=
    withSide_side hx
  have hokp : s.popped.sideOk x := hok
  refine ⟨fun hidle => exec_taken hserved (hact.trans (congrArg taken ?_)), _, exec_taken hserved hact,
    State.disengageSide_side hokp, State.disengageSide_other x s.popped, ?_, ?_, ?_, ?_, ?_, ?_, ?_, ?_, ?_,
    State.disengageSide_plan x s.popped⟩
  · have hstate : (s.popped.side x).state = .idle := hidle
    simp only [State.disengageSide, hstate]
  all_goals simp

/-- The loop that JOG takes. -/
theorem State.jogged_side_of_ok (h : s.sideOk x) (dir : Direction) : ((s.toManual x).startLease x dir).side x =
    { s.side x with
      state := .manual, lease := some ⟨dir, 250⟩, referencing := none, settle := .abandoned
      context := { (s.side x).context with override := none, offer := none } } := by
  have hstood : (s.side x).state ≠ .auto → ({ s.side x with
      state := .manual, lease := some ⟨dir, 250⟩, referencing := none } : SideLoop) = { s.side x with
      state := .manual, lease := some ⟨dir, 250⟩, referencing := none, settle := .abandoned
      context := { (s.side x).context with override := none, offer := none } } :=
    fun hout => congrArg (fun d : SideLoop => { d with state := .manual, lease := some ⟨dir, 250⟩, referencing := none })
      (h.leave_idle hout).symm
  rw [State.startLease, State.setSide_side_same]
  unfold State.toManual
  dsimp only
  cases hstate : (s.side x).state with
  | auto =>
    rw [State.leaveAuto_side]
    have href := h.no_referencing (by simp [hstate])
    simp [href, Config.leaseMs]
  | manual =>
    have href := h.no_referencing (by simp [hstate])
    have hsame : ({ s.side x with state := .manual, lease := some ⟨dir, 250⟩, referencing := none } : SideLoop) =
        { s.side x with lease := some ⟨dir, 250⟩ } := by rw [← hstate, ← href]
    rw [← hstood (by simp [hstate]), hsame]
    rfl
  | _ =>
    rw [← hstood (by simp [hstate])]
    simp [State.tellSideFrozen, SideLoop.standDown, Config.leaseMs]

/-- A byte names no side, or a side. -/
theorem sideByte_cases (v : Nat) : (v ≠ 1 ∧ v ≠ 2) ∨ ∃ x : Side, v = match x with | .left => 1 | .right => 2 := by
  by_cases h1 : v = 1
  · exact .inr ⟨.left, h1⟩
  · by_cases h2 : v = 2
    · exact .inr ⟨.right, h2⟩
    · exact .inl ⟨h1, h2⟩

theorem directionOf_none {n : Nat} (h1 : n ≠ 1) (h2 : n ≠ 2) : directionOf n = none := by
  unfold directionOf
  split <;> simp_all

theorem directionOf_some {n : Nat} (h : n = 1 ∨ n = 2) : directionOf n = some (if n = 1 then .raise else .lower) := by
  obtain rfl | rfl := h <;> rfl

theorem jog_none {p : List Byte} (hx : fieldAt p 0 1 = match x with | .left => 1 | .right => 2)
    (h : directionOf (fieldAt p 1 1) = none) (s : State) : jog p s = refuse .outOfRange s := by
  rw [jog, withSide_side hx, h]

theorem jog_some {p : List Byte} {dir : Direction} (hx : fieldAt p 0 1 = match x with | .left => 1 | .right => 2)
    (h : directionOf (fieldAt p 1 1) = some dir) (s : State) : jog p s = taken ((s.toManual x).startLease x dir) := by
  rw [jog, withSide_side hx, h]

/-- Settles O31. -/
theorem jogGrantsALease : Obligations.JogGrantsALease := by
  refine ⟨fun r row s hserved => ?_, fun x s hrun => ?_⟩
  · intro p v w
    refine ⟨fun hbad => exec_refused hserved ?_, fun x hx hw hok => ?_⟩
    · obtain ⟨h1, h2⟩ | ⟨x, hx⟩ := sideByte_cases v
      · exact withSide_none h1 h2
      · have hw : w ≠ 1 ∧ w ≠ 2 := hbad.resolve_left fun hv => by cases x <;> simp_all
        exact jog_none hx (directionOf_none hw.1 hw.2) _
    · intro d
      have hokp : s.popped.sideOk x := hok
      refine ⟨_, exec_taken hserved (jog_some hx (directionOf_some hw) _), State.jogged_side_of_ok hokp _, ?_, ?_, ?_, ?_,
        ?_, ?_, ?_, ?_, ?_, ?_, (State.setSide_plan ..).trans (State.toManual_plan x s.popped)⟩
      · rw [State.startLease, State.setSide_side_other]
        exact State.toManual_other x s.popped
      all_goals simp
  · have hexec : exec (.jogLeaseExpiry x) s = .next (s.expireLease x) :=
      congrArg Host.Outcome.next (State.whileRunning_running hrun)
    rw [hexec]
    refine ⟨fun hnone => congrArg _ (if_neg ?_), fun hsome => congrArg _ (if_pos (Option.isSome_iff_ne_none.mpr hsome))⟩
    rw [hnone]
    decide

/-! ### REFERENCE (R109, R110) -/

theorem reference_eq {p : List Byte} (hx : fieldAt p 0 1 = match x with | .left => 1 | .right => 2) (s : State) :
    reference p s =
      if (s.side x).state = .referencing || (s.side x).state = .auto || (s.side x).state = .frozen then refuse .wrongState s
      else if (s.monitor.roles.get (gradeRole x)).isNone then refuse .outOfRange s
      else if !s.roleLive (gradeRole x) then refuse .notLive s
      else if (s.monitor.roles.get .drumLoad).isNone then refuse .outOfRange s
      else if !s.drumTurning then refuse .drumIdle s
      else taken (s.startReferencing x) := withSide_side hx

theorem State.roleLive_assigned {q : Role} {n : Fin 8} (hn : s.monitor.roles.get q = some n) :
    s.roleLive q = true ↔ (s.channel n).health = .live := by
  simp [State.roleLive, State.roleChannel, hn]

theorem State.drumTurning_assigned {k : Fin 8} (hk : s.monitor.roles.get .drumLoad = some k) :
    s.drumTurning = true ↔ (s.channel k).health = .live ∧ (s.channel k).engaged = true := by
  simp [State.drumTurning, State.roleChannel, hk]

/-- REFERENCE captures the last values of the load and of the grade channel. -/
theorem State.startReferencing_eq {n k : Fin 8} {a b : Int} (hn : s.monitor.roles.get (gradeRole x) = some n)
    (hk : s.monitor.roles.get .drumLoad = some k) (ha : (s.channel k).value = some a) (hb : (s.channel n).value = some b) :
    s.startReferencing x = s.setSide x { s.side x with
      state := .referencing, lease := none, referencing := some ⟨a, b⟩ } := by
  simp [State.startReferencing, State.roleChannel, hn, hk, ha, hb]

/-- Settles O32: the tests of REFERENCE in their order, then the captures. -/
theorem referenceCapturesTheIdleLoad : Obligations.ReferenceCapturesTheIdleLoad := by
  intro r row s hserved v
  refine ⟨fun h1 h2 => exec_refused hserved (withSide_none h1 h2), fun x hx => ?_⟩
  intro d grade load free
  have hact : requestAct (.reference r) (r.body.take row.size) s.popped = _ := reference_eq hx s.popped
  have hbusy : (decide ((s.popped.side x).state = .referencing) || decide ((s.popped.side x).state = .auto) ||
      decide ((s.popped.side x).state = .frozen)) = true ↔ ¬ free := by
    change _ ↔ ¬ (d.state = .idle ∨ d.state = .manual)
    rw [show s.popped.side x = d from rfl]
    cases d.state <;> decide
  refine ⟨fun h => exec_refused hserved (hact.trans (if_pos (hbusy.mpr h))), fun hfree hnone => exec_refused hserved ?_,
    fun hfree n hn => ?_⟩
  all_goals replace hact := hact.trans (if_neg (Classical.not_not.mpr hfree ∘ hbusy.mp))
  · exact hact.trans (if_pos (Option.isNone_iff_eq_none.mpr hnone))
  replace hact := hact.trans (if_neg (by rw [show s.popped.monitor.roles.get (gradeRole x) = some n from hn]; nofun))
  have hlive : (!s.popped.roleLive (gradeRole x)) = true ↔ (s.channel n).health ≠ .live := by
    rw [Bool.not_eq_true', ← Bool.not_eq_true]
    exact not_congr (State.roleLive_assigned (s := s.popped) hn)
  refine ⟨fun h => exec_refused hserved (hact.trans (if_pos (hlive.mpr h))), fun h hnone => exec_refused hserved ?_,
    fun h k hk => ?_⟩
  all_goals replace hact := hact.trans (if_neg (Classical.not_not.mpr h ∘ hlive.mp))
  · exact hact.trans (if_pos (Option.isNone_iff_eq_none.mpr hnone))
  replace hact := hact.trans (if_neg (by rw [show s.popped.monitor.roles.get .drumLoad = some k from hk]; nofun))
  have hturning : (!s.popped.drumTurning) = true ↔ ¬ ((s.channel k).health = .live ∧ (s.channel k).engaged = true) := by
    rw [Bool.not_eq_true', ← Bool.not_eq_true]
    exact not_congr (State.drumTurning_assigned (s := s.popped) hk)
  refine ⟨fun h => exec_refused hserved (hact.trans (if_pos (hturning.mpr h))), fun a b hkl hke ha hb => ?_⟩
  exact exec_taken hserved (hact.trans ((if_neg (Classical.not_not.mpr ⟨hkl, hke⟩ ∘ hturning.mp)).trans
    (congrArg taken (State.startReferencing_eq (s := s.popped) hn hk ha hb))))

/-! ### SET SIDE MODE and SET TRIM (R107, R108) -/

theorem modeOf_none {n : Nat} (h1 : n ≠ 1) (h2 : n ≠ 2) : modeOf n = none := by
  unfold modeOf
  split <;> simp_all

theorem modeOf_code {m : Mode} {n : Nat} (h : n = match m with | .grade => 1 | .slope => 2) : modeOf n = some m := by
  subst h
  cases m <;> rfl

theorem setSideMode_none {p : List Byte} (hx : fieldAt p 0 1 = match x with | .left => 1 | .right => 2)
    (h : modeOf (fieldAt p 1 1) = none) (s : State) : setSideMode p s = refuse .outOfRange s := by
  rw [setSideMode, withSide_side hx, h]

theorem setSideMode_some {p : List Byte} {m : Mode} (hx : fieldAt p 0 1 = match x with | .left => 1 | .right => 2)
    (h : modeOf (fieldAt p 1 1) = some m) (s : State) : setSideMode p s =
      if (s.side x).state = .auto || (s.side x).state = .referencing then refuse .wrongState s
      else if m = (s.side x).mode then taken s
      else if m = .slope && (s.side (otherSide x)).mode = .slope then refuse .wrongState s
      else if m = .slope && (s.monitor.roles.get .crossSlope).isNone then refuse .outOfRange s
      else taken (s.setSide x { s.side x with mode := m }) := by
  rw [setSideMode, withSide_side hx, h]

/-- Settles O33: the tests of SET SIDE MODE in their order; the trim brought within −200..200. -/
theorem modeAndTrimAreSet : Obligations.ModeAndTrimAreSet := by
  refine ⟨fun r row s hserved => ?_, fun r row s hserved => ?_⟩
  · intro p v w
    refine ⟨fun hbad => exec_refused hserved ?_, fun x m hx hm => ?_⟩
    · obtain ⟨h1, h2⟩ | ⟨x, hx⟩ := sideByte_cases v
      · exact withSide_none h1 h2
      · have hw : w ≠ 1 ∧ w ≠ 2 := hbad.resolve_left fun hv => by cases x <;> simp_all
        exact setSideMode_none hx (modeOf_none hw.1 hw.2) _
    · intro d busy both noSlope
      have hact : requestAct (.setSideMode r) p s.popped = _ := setSideMode_some hx (modeOf_code hm) s.popped
      have hbusy : (decide ((s.popped.side x).state = .auto) || decide ((s.popped.side x).state = .referencing)) = true ↔
          busy := by
        rw [Bool.or_eq_true, decide_eq_true_eq, decide_eq_true_eq]
        rfl
      have hboth : (decide (m = .slope) && decide ((s.popped.side (otherSide x)).mode = .slope)) = true ↔ both := by
        rw [Bool.and_eq_true, decide_eq_true_eq, decide_eq_true_eq]
        rfl
      have hnoSlope : (decide (m = .slope) && (s.popped.monitor.roles.get .crossSlope).isNone) = true ↔ noSlope := by
        rw [Bool.and_eq_true, decide_eq_true_eq, Option.isNone_iff_eq_none]
        rfl
      refine ⟨fun h => exec_refused hserved (hact.trans (if_pos (hbusy.mpr h))), fun h hsame => exec_taken hserved ?_,
        fun h hne hb => exec_refused hserved ?_, fun h hne hb hs => exec_refused hserved ?_,
        fun h hne hb hs => exec_taken hserved ?_⟩
      all_goals replace hact := hact.trans (if_neg (mt hbusy.mp h))
      · exact hact.trans (if_pos hsame)
      all_goals replace hact := hact.trans (if_neg hne)
      · exact hact.trans (if_pos (hboth.mpr hb))
      all_goals replace hact := hact.trans (if_neg (mt hboth.mp hb))
      · exact hact.trans (if_pos (hnoSlope.mpr hs))
      · exact hact.trans (if_neg (mt hnoSlope.mp hs))
  · intro p carried
    refine ⟨fun h1 h2 => exec_refused hserved (withSide_none h1 h2), fun x hx => ?_⟩
    intro out
    have hout (trim : Int) (status : Status) (htrim : bringWithin (-200) 200 carried = trim)
        (hstatus : (if trim = carried then Status.done else .clamped) = status) : exec (.setTrim r) s = out trim status := by
      have hact : requestAct (.setTrim r) p s.popped = (s.popped.setSide x { s.side x with trim := trim },
          ⟨status, intBytes 2 trim, none⟩) := by
        subst htrim hstatus
        exact withSide_side hx
      rw [exec_served hserved, hact]
    refine ⟨fun hlo hhi => hout _ _ (bringWithin_of_within hlo hhi) (if_pos rfl), fun hlow => ?_, fun hhigh => ?_⟩
    · exact hout _ _ (if_pos hlow) (if_neg (by omega))
    · exact hout _ _ ((if_neg (by omega)).trans (if_pos hhigh)) (if_neg (by omega))

end

end Sys2Proof.Machine
end

section
/-! The side interval out of AUTO (O34), the settle steps (O36), the banks (O42) and the operator cap (O43). -/
namespace Sys2Proof.Machine

/-! ### The side interval (R97) -/

section
variable {x : Side} {s : State}

theorem exec_sideIntervalExpiry (hrun : s.heldReset = none) :
    exec (.sideIntervalExpiry x) s = .next ((s.sideInterval x).nextSidePeriod x) :=
  congrArg Host.Outcome.next (State.whileRunning_running hrun)

theorem State.nextSidePeriod_eq (x : Side) (t : State) : t.nextSidePeriod x = { t with timers := match x with
    | .left => { t.timers with leftSide := 20 }
    | .right => { t.timers with rightSide := 20 } } := by
  cases x <;> rfl

/-- The judgement of a side that has its captures and both values (R111). -/
theorem State.judge_eq {cap : Referencing} {n k : Fin 8} {load reading : Int} (hcap : (s.side x).referencing = some cap)
    (hn : s.monitor.roles.get (gradeRole x) = some n) (hk : s.monitor.roles.get .drumLoad = some k)
    (hload : (s.channel k).value = some load) (hreading : (s.channel n).value = some reading) :
    s.judge x =
      if cap.idleLoad + s.station.geometry.touchDelta ≤ load then .touch
      else if s.station.geometry.referenceTravel ≤ (reading - cap.startReading).natAbs then .failure
      else .noResult := by
  simp [State.judge, State.roleChannel, hcap, hn, hk, hload, hreading]

theorem State.referencingInterval_touch (h : s.judge x = .touch) : s.referencingInterval x = s.touch x := by
  simp only [State.referencingInterval, h]

theorem State.referencingInterval_failure (h : s.judge x = .failure) :
    s.referencingInterval x = s.failReferencing x := by
  simp only [State.referencingInterval, h]

theorem State.referencingInterval_noResult (h : s.judge x = .noResult) :
    s.referencingInterval x = s.drive x s.station.geometry.referenceRate := by
  simp only [State.referencingInterval, h]

theorem State.touch_eq {n : Fin 8} {reading : Int} (hn : s.monitor.roles.get (gradeRole x) = some n)
    (hreading : (s.channel n).value = some reading) :
    s.touch x = ((s.setChannel n { s.channel n with zero := some reading }).setSide x { s.side x with
      state := .manual, demand := 0, lease := none, referencing := none }).raiseNotice .referenceDone := by
  have hzero : s.zeroAtTouch x = s.setChannel n { s.channel n with zero := some reading } := by
    simp only [State.zeroAtTouch, hn, hreading]
  rw [State.touch, State.zeroAtTouch_side, hzero]

/-- Settles O34: what the interval does in each state out of AUTO; a touch is judged before the travel. -/
theorem sideIntervalsOutOfAuto : Obligations.SideIntervalsOutOfAuto := by
  intro x s hrun d next g b formed
  have hexec {t : State} (h : s.sideInterval x = t) : exec (.sideIntervalExpiry x) s = next t := by
    rw [exec_sideIntervalExpiry hrun, h]
    exact congrArg Host.Outcome.next (State.nextSidePeriod_eq x t)
  refine ⟨fun hrest => hexec ?_, fun hmanual l hl => hexec ?_, fun href cap n k load reading hcap hn hk hload hreading => ?_⟩
  · obtain hstate | hstate | ⟨hstate, hlease⟩ := hrest
    · simp only [State.sideInterval, show (s.side x).state = .idle from hstate]
    · simp only [State.sideInterval, show (s.side x).state = .frozen from hstate]
    · simp only [State.sideInterval, show (s.side x).state = .manual from hstate, show (s.side x).lease = none from hlease]
  · simp only [State.sideInterval, show (s.side x).state = .manual from hmanual, show (s.side x).lease = some l from hl]
    cases l.direction <;> rfl
  · intro touch travelled
    have hinterval : s.sideInterval x = s.referencingInterval x := by
      simp only [State.sideInterval, show (s.side x).state = .referencing from href]
    have hjudge := State.judge_eq hcap hn hk hload hreading
    refine ⟨fun htouch => hexec (hinterval.trans ?_), fun hno htravel => hexec (hinterval.trans ?_), fun hno hnot =>
      hexec (hinterval.trans ?_)⟩
    · exact (State.referencingInterval_touch (hjudge.trans (if_pos htouch))).trans (State.touch_eq hn hreading)
    · exact State.referencingInterval_failure (hjudge.trans ((if_neg hno).trans (if_pos htravel)))
    · exact State.referencingInterval_noResult (hjudge.trans ((if_neg hno).trans (if_neg hnot)))

/-! ### The settle steps (R131, R132) -/

theorem Bank.firstStep_cons (b : Bank) (speed : Int) (k : Fin 3) (steps : List (Fin 3)) :
    b.firstStep speed (k :: steps) =
      if 0 < b.dwell k ∧ speed < b.skip k then .settling k (b.dwell k * 100) else b.firstStep speed steps := by
  have heligible : b.eligible speed k = true ↔ 0 < b.dwell k ∧ speed < b.skip k := by
    rw [Bank.eligible, Bool.and_eq_true, decide_eq_true_eq, decide_eq_true_eq]
  unfold Bank.firstStep
  by_cases h : 0 < b.dwell k ∧ speed < b.skip k
  · rw [List.find?_cons_of_pos (heligible.mpr h), if_pos h]
    rfl
  · rw [List.find?_cons_of_neg (mt heligible.mp h), if_neg h]

theorem State.dwellDue_settling {k : Fin 3} {dwell : Nat} (hauto : (s.side x).state = .auto)
    (hsettle : (s.side x).settle = .settling k dwell) : s.dwellDue x = true ↔ dwell ≤ 20 := by
  simp only [State.dwellDue, hauto, hsettle, decide_true, Bool.true_and, decide_eq_true_eq]
  rfl

theorem State.dwellDue_false (h : (s.side x).state ≠ .auto ∨ ∀ k dwell, (s.side x).settle = .settling k dwell → 20 < dwell) :
    s.dwellDue x = false := by
  rw [Bool.eq_false_iff]
  intro hdue
  have hauto : (s.side x).state = .auto := by
    rw [State.dwellDue, Bool.and_eq_true, decide_eq_true_eq] at hdue
    exact hdue.1
  have hover := h.resolve_left (Classical.not_not.mpr hauto)
  cases hsettle : (s.side x).settle with
  | settling k dwell => exact absurd ((State.dwellDue_settling hauto hsettle).mp hdue) (Nat.not_le.mpr (hover k dwell hsettle))
  | tracking | abandoned => simp [State.dwellDue, hsettle] at hdue

/-- Settles O36. -/
theorem settleStepsAreJudgedInOrder : Obligations.SettleStepsAreJudgedInOrder := by
  refine ⟨fun b speed => ?_, fun x s hrun => ?_⟩
  · intro ok0 ok1 ok2
    exact ⟨fun h => (b.firstStep_cons speed 0 [1, 2]).trans (if_pos h), fun h => (b.firstStep_cons speed 0 [1, 2]).trans (if_neg h),
      fun h => (b.firstStep_cons speed 1 [2]).trans (if_pos h), fun h => (b.firstStep_cons speed 1 [2]).trans (if_neg h),
      fun h => (b.firstStep_cons speed 2 []).trans (if_pos h), fun h => (b.firstStep_cons speed 2 []).trans (if_neg h), rfl⟩
  · have hexec : exec (.settleDwellExpiry x) s =
        .next (if s.dwellDue x then (s.sideInterval x).nextSidePeriod x else s) :=
      congrArg Host.Outcome.next (State.whileRunning_running hrun)
    refine ⟨fun k dwell hauto hsettle hle => ⟨_, hexec, ?_⟩, fun h => ?_⟩
    · rw [exec_sideIntervalExpiry hrun, if_pos ((State.dwellDue_settling hauto hsettle).mpr hle)]
    · rw [hexec, State.dwellDue_false h]
      rfl

end

/-! ### WRITE BANK (R123) and SET ADVANCE CAP (R146) -/

theorem bankNameOf_none {v : Nat} (h1 : v ≠ 1) (h2 : v ≠ 2) : bankNameOf v = none := by
  unfold bankNameOf
  split <;> simp_all

theorem bankNameOf_code {v : Nat} {n : BankName} (h : v = match n with | .soft => 1 | .hard => 2) :
    bankNameOf v = some n := by
  subst h
  cases n <;> rfl

/-- A byte names no bank, or a bank. -/
theorem bankByte_cases (v : Nat) : (v ≠ 1 ∧ v ≠ 2) ∨ ∃ n : BankName, v = match n with | .soft => 1 | .hard => 2 := by
  by_cases h1 : v = 1
  · exact .inr ⟨.soft, h1⟩
  · by_cases h2 : v = 2
    · exact .inr ⟨.hard, h2⟩
    · exact .inl ⟨h1, h2⟩

theorem writeBank_none {p : List Byte} (h : bankNameOf (fieldAt p 0 1) = none) (s : State) :
    writeBank p s = refuse .outOfRange s := by
  simp only [writeBank, h]

theorem writeBank_some {p : List Byte} {n : BankName} (h : bankNameOf (fieldAt p 0 1) = some n) (s : State) :
    writeBank p s = if (bankOfBytes (p.drop 1)).inRange then taken (s.storeBank n (bankOfBytes (p.drop 1)))
      else refuse .outOfRange s := by
  simp only [writeBank, h, State.storeBank]

/-- A bank stored in the active bank's place limits the held demands. -/
theorem State.storeBank_eq (n : BankName) (b : Bank) (s : State) : s.storeBank n b = { s with
    banks := match n with | .soft => { s.banks with soft := b } | .hard => { s.banks with hard := b }
    left := if s.banks.active = n then { s.left with demand := b.limit s.left.demand } else s.left
    right := if s.banks.active = n then { s.right with demand := b.limit s.right.demand } else s.right } := by
  unfold State.storeBank
  by_cases h : s.banks.active = n
  · have hactive : (s.setBank n b).activeBank = b := by
      subst h
      cases h : s.banks.active <;> simp [State.setBank, State.activeBank, State.bank, h]
    rw [if_pos h, if_pos h, if_pos h, State.limitDemands, hactive]
    cases n <;> rfl
  · rw [if_neg h, if_neg h, if_neg h]
    cases n <;> rfl

/-- Settles O42. -/
theorem writeBankReplacesTheBank : Obligations.WriteBankReplacesTheBank := by
  intro r row s hserved p v b
  refine ⟨fun hbad => exec_refused hserved ?_, fun n hn hrange => ?_⟩
  · obtain ⟨h1, h2⟩ | ⟨n, hn⟩ := bankByte_cases v
    · exact writeBank_none (bankNameOf_none h1 h2) _
    · have hrange : b.inRange = false := hbad.resolve_left fun hv => by cases n <;> simp_all
      exact (writeBank_some (bankNameOf_code hn) _).trans (if_neg (ne_true_of_eq_false hrange))
  · intro limited
    exact exec_taken hserved ((writeBank_some (bankNameOf_code hn) _).trans ((if_pos hrange).trans
      (congrArg taken (State.storeBank_eq n b s.popped))))

theorem setAdvanceCap_eq (p : List Byte) (s : State) : setAdvanceCap p s =
    let v := signedAt p 0 2
    let cap := (bringWithin 0 600 v).toNat
    ({ s with governor := if cap < s.governor.ceiling then { s.governor with cap := cap, ceiling := cap, reason := .operator }
        else { s.governor with cap := cap } },
      ⟨if (cap : Int) = v then .done else .clamped, beBytes 2 cap, none⟩) := rfl

/-- Settles O43. -/
theorem advanceCapsAreClamped : Obligations.AdvanceCapsAreClamped := by
  intro r row s hserved carried out
  have hout (cap : Nat) (status : Status) (hcap : bringWithin 0 600 carried = cap)
      (hstatus : (if (cap : Int) = carried then Status.done else .clamped) = status) :
      exec (.setAdvanceCap r) s = out cap status := by
    have hact : requestAct (.setAdvanceCap r) (r.body.take row.size) s.popped = ({ s.popped with
        governor := if cap < s.governor.ceiling then { s.governor with cap := cap, ceiling := cap, reason := .operator }
          else { s.governor with cap := cap } }, ⟨status, beBytes 2 cap, none⟩) := by
      refine (setAdvanceCap_eq _ _).trans ?_
      dsimp only
      rw [hcap, Int.toNat_natCast, hstatus]
      rfl
    rw [exec_served hserved, hact]
  refine ⟨fun hlow => hout _ _ (if_pos hlow) (if_neg (by omega)), fun hlo hhi => ?_, fun hhigh => ?_⟩
  · exact hout _ _ ((bringWithin_of_within hlo hhi).trans (Int.toNat_of_nonneg hlo).symm)
      (if_pos (Int.toNat_of_nonneg hlo))
  · exact hout _ _ ((if_neg (by omega)).trans (if_pos hhigh)) (if_neg (by omega))

end Sys2Proof.Machine
end

section
/-! What the reads report: the quantities, the geometry, the station, the channels, the roles and the banks (O26); the
sides, the governor, the conveyor and the notices (O41). -/
namespace Sys2Proof.Machine

/-! ### Flags and values present or not -/

theorem flagBytes_eq (b : Bool) : flagBytes b = [if b then 1 else 0] := by
  cases b <;> rfl

theorem presentBytes_some (k : Nat) (v : Int) : presentBytes k (some v) = 1 :: intBytes k v := rfl

/-- The bytes of a value are those of its residue. -/
theorem beBytes_mod (k v : Nat) : beBytes k (v % 256 ^ k) = beBytes k v := by
  induction k generalizing v with
  | zero => rfl
  | succ k ih =>
    have hhigh : v % 256 ^ (k + 1) / 256 = v / 256 % 256 ^ k := by
      rw [Nat.pow_succ', Nat.mod_mul_right_div_self]
    have hlow : BitVec.ofNat 8 (v % 256 ^ (k + 1)) = BitVec.ofNat 8 v := by
      refine BitVec.eq_of_toNat_eq ?_
      rw [BitVec.toNat_ofNat, BitVec.toNat_ofNat, Nat.mod_mod_of_dvd _ (show 2 ^ 8 ∣ 256 ^ (k + 1) from ⟨256 ^ k, Nat.pow_succ'⟩)]
    rw [beBytes_succ_eq_append, beBytes_succ_eq_append, hhigh, ih, hlow]

/-- A value that is not negative is written as it stands. -/
theorem intBytes_natCast (k v : Nat) : intBytes k (v : Int) = beBytes k v := by
  rw [intBytes, ← Int.natCast_emod, Int.toNat_natCast, beBytes_mod]

theorem presentBytes_byte (o : Option Byte) : presentBytes 1 (o.map (fun b => (b.toNat : Int))) =
    match o with
    | some b => [1, b]
    | none => [0, 0] := by
  cases o with
  | none => rfl
  | some b =>
    rw [Option.map_some, presentBytes_some, intBytes_natCast, show beBytes 1 b.toNat = byteOf b.toNat from rfl, byteOf_eq,
      BitVec.ofNat_toNat, BitVec.setWidth_eq]


theorem presentBytes_nat (o : Option Nat) : presentBytes 2 (o.map fun v => (v : Int)) =
    match o with
    | some k => 1 :: beBytes 2 k
    | none => [0, 0, 0] := by
  cases o with
  | none => rfl
  | some k => exact congrArg (1 :: ·) (intBytes_natCast 2 k)

/-! ### The converted quantities (R78, R79) -/

/-- The depth of a channel is valid for a grade channel that is LIVE with a zero reference. -/
theorem Channel.depth_spec (c : Channel) :
    let polarity := (c.config.bind fun g => g.kind.polarity).map Polarity.sign
    (∀ sign z v, polarity = some sign → c.health = .live → c.zero = some z → c.value = some v →
      c.depth = some (bringWithin (-500) 5000 ((z - v) * sign))) ∧
    (polarity = none ∨ c.health ≠ .live ∨ c.zero = none ∨ c.value = none → c.depth = none) := by
  intro polarity
  refine ⟨fun sign z v hsign hlive hz hv => ?_, fun h => ?_⟩
  · obtain ⟨p, hp, rfl⟩ := Option.map_eq_some_iff.mp hsign
    obtain ⟨g, hg, hgp⟩ := Option.bind_eq_some_iff.mp hp
    have hown : c.sign = p.sign := by rw [Channel.sign, hp]
    rw [Channel.depth_eq hg hz hv hlive (by rw [Kind.isGrade, hgp]; rfl), hown]
  · unfold Channel.depth
    obtain h | h | h | h := h
    · cases hg : c.config with
      | none => rfl
      | some g =>
        have hno : g.kind.isGrade = false := by
          rw [Option.map_eq_none_iff, hg] at h
          rw [Kind.isGrade, show g.kind.polarity = none from h]
          rfl
        cases c.zero <;> cases c.value <;> simp [hno]
    · cases c.config <;> cases c.zero <;> cases c.value <;> simp [h]
    · rw [h]
      cases c.config <;> rfl
    · rw [h]
      cases c.config <;> cases c.zero <;> rfl

theorem State.roleQuantity_eq (s : State) (q : Role) : (s.roleChannel q).bind Channel.quantity =
    match s.monitor.roles.get q with
    | some n => if (s.channel n).health = .live then (s.channel n).value else none
    | none => none := by
  unfold State.roleChannel
  cases s.monitor.roles.get q <;> rfl

theorem State.roleDepth_eq (s : State) (q : Role) : (s.roleChannel q).bind Channel.depth =
    match s.monitor.roles.get q with
    | some n => (s.channel n).depth
    | none => none := by
  unfold State.roleChannel
  cases s.monitor.roles.get q <;> rfl

/-! ### The reads of the station, the channels, the roles and the banks -/

theorem State.channelBytes_eq (n : Fin 8) (s : State) :
    let c := s.channel n
    let grade : Bool := s.roleHeld n = some .leftGrade || s.roleHeld n = some .rightGrade
    s.channelBytes n =
      (match c.config with
        | some g => [1, BitVec.ofNat 8 g.address, BitVec.ofNat 8 g.kind.code, BitVec.ofNat 8 g.timeout,
            match g.kind with
            | .sonic .plus => 1
            | .rope .plus => 1
            | .sonic .minus => 255
            | .rope .minus => 255
            | _ => 0]
        | none => [0, 0, 0, 0, 0]) ++
      presentBytes 4 c.zero ++ BitVec.ofNat 8 c.health.code :: presentBytes 2 c.value ++
      (match c.status with | some b => [1, b] | none => [0, 0]) ++
      [if c.engaged then 1 else 0, match s.roleHeld n with | some q => BitVec.ofNat 8 q.code | none => 0] ++
      presentBytes 2 (if grade then c.depth else none) := by
  intro c grade
  have hconfig : flagBytes c.config.isSome ++ byteOf ((c.config.map ChannelConfig.address).getD 0) ++
      byteOf ((c.config.map (fun g => g.kind.code)).getD 0) ++ byteOf ((c.config.map ChannelConfig.timeout).getD 0) ++
      byteOf (((c.config.bind (fun g => g.kind.polarity)).map Polarity.code).getD 0) =
        match c.config with
        | some g => [1, BitVec.ofNat 8 g.address, BitVec.ofNat 8 g.kind.code, BitVec.ofNat 8 g.timeout,
            match g.kind with
            | .sonic .plus => 1
            | .rope .plus => 1
            | .sonic .minus => 255
            | .rope .minus => 255
            | _ => 0]
        | none => [0, 0, 0, 0, 0] := by
    simp only [byteOf_eq, flagBytes_eq]
    rcases c.config with _ | ⟨address, kind, timeout⟩
    · rfl
    · cases kind with
      | sonic p | rope p => cases p <;> rfl
      | _ => rfl
  have hrole : byteOf (roleCode (s.roleHeld n)) =
      [match s.roleHeld n with | some q => BitVec.ofNat 8 q.code | none => 0] := by
    rw [byteOf_eq]
    cases s.roleHeld n <;> rfl
  have hdepth : s.reportedDepth n = if grade then c.depth else none := by
    unfold State.reportedDepth grade
    cases s.roleHeld n with
    | none => rfl
    | some q => cases q <;> rfl
  have hbytes : s.channelBytes n = flagBytes c.config.isSome ++ byteOf ((c.config.map ChannelConfig.address).getD 0) ++
      byteOf ((c.config.map (fun g => g.kind.code)).getD 0) ++ byteOf ((c.config.map ChannelConfig.timeout).getD 0) ++
      byteOf (((c.config.bind (fun g => g.kind.polarity)).map Polarity.code).getD 0) ++ presentBytes 4 c.zero ++
      byteOf c.health.code ++ presentBytes 2 c.value ++ presentBytes 1 (c.status.map (fun b => (b.toNat : Int))) ++
      flagBytes c.engaged ++ byteOf (roleCode (s.roleHeld n)) ++ presentBytes 2 (s.reportedDepth n) := rfl
  rw [hbytes, hconfig, hrole, hdepth, presentBytes_byte, flagBytes_eq, byteOf_eq]
  simp only [List.append_assoc, List.cons_append, List.nil_append]

theorem State.roleBytes_eq (q : Role) (s : State) : s.roleBytes q = match s.monitor.roles.get q with
    | some n => [BitVec.ofNat 8 n.val, BitVec.ofNat 8 (s.channel n).health.code,
        if (q = .leftGrade ∨ q = .rightGrade) ∧ (s.channel n).zero ≠ none then 1 else 0]
    | none => [255, 0, 0] := by
  unfold State.roleBytes State.roleChannel
  cases hn : s.monitor.roles.get q with
  | none => rfl
  | some n =>
    have hflag : flagBytes ((q = .leftGrade || q = .rightGrade) && (s.channel n).zero.isSome) =
        [if (q = .leftGrade ∨ q = .rightGrade) ∧ (s.channel n).zero ≠ none then 1 else 0] := by
      rw [flagBytes_eq]
      simp [Option.isSome_iff_ne_none]
    simp only [Option.map_some, byteOf_eq, hflag]
    rfl

theorem readChannel_none {p : List Byte} (h : channelOf (fieldAt p 0 1) = none) (s : State) :
    readChannel p s = refuse .outOfRange s := by
  simp only [readChannel, h]

theorem readChannel_some {p : List Byte} {n : Fin 8} (h : channelOf (fieldAt p 0 1) = some n) (s : State) :
    readChannel p s = (s, doneWith (s.channelBytes n)) := by
  simp only [readChannel, h]

theorem readBank_none {p : List Byte} (h : bankNameOf (fieldAt p 0 1) = none) (s : State) :
    readBank p s = refuse .outOfRange s := by
  simp only [readBank, h]

theorem readBank_some {p : List Byte} {b : BankName} (h : bankNameOf (fieldAt p 0 1) = some b) (s : State) :
    readBank p s = (s, doneWith (bankBytes (s.bank b) ++ flagBytes (s.banks.active = b))) := by
  simp only [readBank, h]

/-- Settles O26. -/
theorem machineReadsReportTheRecords : Obligations.MachineReadsReportTheRecords := by
  refine ⟨fun c => ?_, fun s => ⟨fun x => ?_, s.roleQuantity_eq .crossSlope, s.roleQuantity_eq .drumLoad,
    s.roleQuantity_eq .beltPressure⟩, fun i r row s hserved => ?_⟩
  · intro polarity
    have hpolarity : polarity = (c.config.bind fun g => g.kind.polarity).map Polarity.sign := by
      unfold polarity
      rcases c.config with _ | ⟨address, kind, timeout⟩
      · rfl
      · cases kind with
        | sonic p | rope p => cases p <;> rfl
        | _ => rfl
    rw [hpolarity]
    exact c.depth_spec
  · cases x with
    | left => exact s.roleDepth_eq .leftGrade
    | right => exact s.roleDepth_eq .rightGrade
  · intro p
    refine ⟨?_, ?_, ?_, ?_, ?_⟩
    · rintro rfl
      refine exec_done hserved (congrArg (fun p => (s.popped, doneWith p)) ?_)
      rw [byteOf_eq]
      simp only [List.append_assoc, List.cons_append, List.nil_append] <;> rfl
    · rintro rfl
      refine exec_done hserved (congrArg (fun p => (s.popped, doneWith p)) ?_)
      have hsense : byteOf s.station.sense.code = [if s.station.sense = .ascending then 1 else 2] := by
        cases s.station.sense <;> rfl
      rw [flagBytes_eq, show s.popped.station = s.station from rfl, hsense]
      simp only [List.append_assoc, List.cons_append, List.nil_append] <;> rfl
    · rintro rfl
      refine ⟨fun h8 => exec_refused hserved ?_, fun n hn => ?_⟩
      · exact readChannel_none (channelOf_eq_none.mpr h8) _
      · intro c grade
        exact exec_done hserved ((readChannel_some (hn ▸ channelOf_val n) _).trans
          (congrArg (fun p => (s.popped, doneWith p)) (s.popped.channelBytes_eq n)))
    · rintro rfl
      intro entry
      refine exec_done hserved (congrArg (fun p => (s.popped, doneWith p)) ?_)
      have hentry : ∀ q, s.popped.roleBytes q = entry q := fun q => s.popped.roleBytes_eq q
      simp only [allRoles, List.map_cons, List.map_nil, List.flatten_cons, List.flatten_nil, hentry, List.append_nil,
        List.append_assoc]
    · rintro rfl
      refine ⟨fun h1 h2 => exec_refused hserved ?_, fun b hb => exec_done hserved ?_⟩
      · exact readBank_none (bankNameOf_none h1 h2) _
      · refine (readBank_some (bankNameOf_code hb) _).trans (congrArg (fun p => (s.popped, doneWith p)) ?_)
        rw [flagBytes_eq]
        simp only [decide_eq_true_eq]
        rfl

/-! ### The reads of the sides, the governor, the conveyor and the notices (R118, R149, R174, R182) -/

/-- A side's report after its number, state, mode, trim and demand: the lease, the settle sequence and the captures. -/
theorem leaseBytes_eq (l : Option Lease) :
    byteOf ((l.map (fun l => l.direction.code)).getD 0) ++ byteOf ((l.map Lease.remaining).getD 0) =
      match l with
      | some l => [BitVec.ofNat 8 l.direction.code, BitVec.ofNat 8 l.remaining]
      | none => [0, 0] := by
  rw [byteOf_eq, byteOf_eq]
  cases l <;> rfl

theorem settleBytes_eq (v : Settle) : byteOf v.code ++ beBytes 2 v.remaining =
    match v with
    | .settling k dwell => BitVec.ofNat 8 k.val :: beBytes 2 dwell
    | .tracking => [3, 0, 0]
    | .abandoned => [255, 0, 0] := by
  rw [byteOf_eq]
  cases v <;> rfl

theorem contextBytes_eq (c : PlanContext) : contextBytes c =
    [BitVec.ofNat 8 c.source.code] ++ intBytes 2 c.entryDepth ++ beBytes 4 c.entryStation ++
    intBytes 2 c.holdDepth ++ intBytes 2 c.planDepth ++ intBytes 2 c.depthTarget ++
    [BitVec.ofNat 8 c.basis.code] ++ intBytes 2 c.slopeTarget ++ intBytes 2 c.heldSlope ++
    (match c.override with | some k => 1 :: intBytes 2 k | none => [0, 0, 0]) ++
    (match c.offer with | some k => 1 :: intBytes 2 k | none => [0, 0, 0]) := by
  rw [contextBytes, byteOf_eq, byteOf_eq]
  cases c.override <;> cases c.offer <;> rfl

theorem State.sideBytes_eq (x : Side) (s : State) :
    let d := s.side x
    s.sideBytes x =
      [BitVec.ofNat 8 (sideCode x), BitVec.ofNat 8 d.state.code, BitVec.ofNat 8 d.mode.code] ++ intBytes 2 d.trim ++
      intBytes 2 d.demand ++
      (byteOf ((d.lease.map (fun l => l.direction.code)).getD 0) ++ byteOf ((d.lease.map Lease.remaining).getD 0)) ++
      (byteOf d.settle.code ++ beBytes 2 d.settle.remaining) ++
      (match d.referencing with
        | some k => 1 :: intBytes 1 k.idleLoad ++ intBytes 2 k.startReading
        | none => [0, 0, 0, 0]) ++
      [if s.isReferenced x then 1 else 0] ++ intBytes 2 ((s.measuredDepth x).getD (-32768)) ++
      intBytes 2 (if d.mode = .slope then s.crossSlope.getD (-32768) else -32768) ++ contextBytes d.context := by
  intro d
  rw [State.sideBytes, ← flagBytes_eq]
  simp only [byteOf_eq, List.append_assoc, List.cons_append, List.nil_append]
  cases d.referencing <;> rfl

/-- A set of three bytes written from one flag of every record. -/
theorem State.noticeSet_spec (f : NoticeRecord → Bool) (s : State) :
    let bytes := noticeSetBytes (s.notices.records.toList.map f)
    (∀ n : Notice, (beNat bytes).testBit n.number.val = f (s.notice n)) ∧ bytes.length = 3 ∧ beNat bytes < 2 ^ 19 := by
  intro bytes
  have hlength : (s.notices.records.toList.map f).length = 19 := by simp
  have hvalue : beNat bytes = bitsValue (s.notices.records.toList.map f) :=
    beNat_noticeSetBytes (by rw [hlength]; decide)
  refine ⟨fun n => ?_, noticeSetBytes_length _, ?_⟩
  · rw [hvalue, bitsValue_testBit]
    simp [State.notice]
  · have hlt := bitsValue_lt (s.notices.records.toList.map f)
    rwa [hlength, ← hvalue] at hlt

/-- Settles O41. -/
theorem loopReadsReportTheState : Obligations.LoopReadsReportTheState := by
  intro i r row s hserved v flag
  have hflag : ∀ b, flagBytes b = [flag b] := flagBytes_eq
  refine ⟨?_, ?_, ?_, ?_⟩
  · rintro rfl
    refine ⟨fun h1 h2 => exec_refused hserved (withSide_none h1 h2), fun x hx => ?_⟩
    intro d c
    have hcode : sideCode x = v := by cases x <;> exact hx.symm
    refine exec_done hserved ((withSide_side hx).trans (congrArg (fun p => (s.popped, doneWith p)) ?_))
    rw [State.sideBytes_eq, leaseBytes_eq, settleBytes_eq, contextBytes_eq, hcode]
    simp only [List.append_assoc]
    rfl
  · rintro rfl
    have hformed : (if s.governor.formed then byteOf 1 ++ [s.governor.count - 1] else byteOf 0 ++ byteOf 0) =
        if s.governor.formed then [1, s.governor.count - 1] else [0, 0] := by
      cases s.governor.formed <;> rfl
    refine exec_done hserved (congrArg (fun p => (s.popped, doneWith p)) ?_)
    rw [show s.popped.governor = s.governor from rfl, presentBytes_nat, hformed, hflag]
    simp only [byteOf_eq, List.append_assoc, List.cons_append, List.nil_append] <;> rfl
  · rintro rfl
    intro c
    have hrunOn : beBytes 2 (if (decide (c.state = .runOn)) = true then c.runOnSpeed.getD 0 else 0) ++
        beBytes 2 (if (decide (c.state = .runOn)) = true then c.runOnCount else 0) =
          if c.state = .runOn then beBytes 2 (c.runOnSpeed.getD 0) ++ beBytes 2 c.runOnCount else [0, 0, 0, 0] := by
      by_cases h : c.state = .runOn
      · simp only [h, decide_true, if_true]
      · simp only [h, decide_false, if_false, Bool.false_eq_true]
        rfl
    refine exec_done hserved (congrArg (fun p => (s.popped, doneWith p)) ?_)
    rw [← hrunOn, show s.popped.conveyor = c from rfl, hflag, hflag]
    simp only [byteOf_eq, List.append_assoc, List.cons_append, List.nil_append]
  · rintro rfl
    obtain ⟨hlatch, hlatchLength, hlatchLt⟩ := s.noticeSet_spec NoticeRecord.latch
    obtain ⟨hmask, hmaskLength, hmaskLt⟩ := s.noticeSet_spec NoticeRecord.masked
    obtain ⟨hcause, hcauseLength, hcauseLt⟩ := s.noticeSet_spec NoticeRecord.cause
    refine ⟨_, _, _, fun n => ⟨hlatch n, hmask n, hcause n⟩, hlatchLength, hmaskLength, hcauseLength, hlatchLt, hmaskLt,
      hcauseLt, exec_done hserved (congrArg (fun p => (s.popped, doneWith p)) ?_)⟩
    rw [hflag]
    rfl

end Sys2Proof.Machine
end

section
/-! The requests on the conveyor: START, STOP, TRUCK AWAY, TRUCK READY, CLEAR BLOCK and CLEAR TOTALS (O46), SET BELT MODE
and SET TRUCK TARGET (O47). -/
namespace Sys2Proof.Machine

/-! ### Entering RUNNING (R162) -/

theorem Conveyor.runningSpeed_eq (beltMin : Nat) (c : Conveyor) :
    c.runningSpeed beltMin = if c.beltMode = .fixed then c.fixedSpeed else c.neededSpeed.getD beltMin := by
  unfold runningSpeed
  cases c.beltMode <;> rfl

theorem Conveyor.enterRunning_eq (beltMin : Nat) (c : Conveyor) : c.enterRunning beltMin = { c with
    state := .running, runOnSpeed := none, runOnCount := 0
    beltSpeed := if c.beltMode = .fixed then c.fixedSpeed else c.neededSpeed.getD beltMin } := by
  rw [enterRunning, runningSpeed_eq]

theorem State.startBelt_eq (s : State) :
    s.startBelt = s.withConveyor (s.conveyor.enterRunning s.station.geometry.beltMin) := rfl

/-! ### The requests of the belt and the truck (R160, R161, R169, R170, R172, R173) -/

section
variable {s : State} (p : List Byte)

theorem conveyorStart_starts (h : s.conveyor.state = .stopped ∨ s.conveyor.state = .runOn) :
    conveyorStart p s = taken s.startBelt := by
  obtain h | h := h <;> simp only [conveyorStart, h]

theorem conveyorStart_runs (h : s.conveyor.state = .running) : conveyorStart p s = taken s := by
  simp only [conveyorStart, h]

theorem conveyorStart_wrong (h : s.conveyor.state = .held ∨ s.conveyor.state = .blocked) :
    conveyorStart p s = refuse .wrongState s := by
  obtain h | h := h <;> simp only [conveyorStart, h]

theorem conveyorStop_running (h : s.conveyor.state = .running) :
    conveyorStop p s = taken (s.mapConveyor (Conveyor.enterRunOn s.station.geometry.runOnTime)) := by
  simp only [conveyorStop, h]

theorem conveyorStop_held (h : s.conveyor.state = .held) :
    conveyorStop p s = taken (s.mapConveyor (Conveyor.stand .stopped)) := by
  simp only [conveyorStop, h]

theorem conveyorStop_stands (h : s.conveyor.state = .runOn ∨ s.conveyor.state = .stopped ∨ s.conveyor.state = .blocked) :
    conveyorStop p s = taken s := by
  obtain h | h | h := h <;> simp only [conveyorStop, h]

theorem truckAway_turning (h : s.conveyor.state = .running ∨ s.conveyor.state = .runOn) :
    truckAway p s = taken (s.mapConveyor (Conveyor.stand .held)) := by
  obtain h | h := h <;> simp only [truckAway, h]

theorem truckAway_held (h : s.conveyor.state = .held) : truckAway p s = taken s := by
  simp only [truckAway, h]

theorem truckAway_wrong (h : s.conveyor.state = .stopped ∨ s.conveyor.state = .blocked) :
    truckAway p s = refuse .wrongState s := by
  obtain h | h := h <;> simp only [truckAway, h]

/-- An empty truck is not full; a held belt starts. -/
theorem truckReady_eq :
    let emptied : Conveyor := { s.conveyor with truckCounter := 0 }
    truckReady p s = taken ((s.withConveyor (if s.conveyor.state = .held then emptied.enterRunning s.station.geometry.beltMin
      else emptied)).tellCause .truckFull false) := by
  intro emptied
  have hfull : (s.withConveyor emptied).truckFull = false := by
    rw [State.truckFull, Bool.and_eq_false_iff, decide_eq_false_iff_not, decide_eq_false_iff_not]
    change ¬ 0 < s.conveyor.truckTarget ∨ ¬ s.conveyor.truckTarget * 100 ≤ 0
    omega
  have htold : (s.withConveyor emptied).tellTruckFull = (s.tellCause .truckFull false).withConveyor emptied := by
    rw [State.tellTruckFull, hfull, State.withConveyor_tellCause]
  have hready : truckReady p s = if s.conveyor.state = .held then taken (s.withConveyor emptied).tellTruckFull.startBelt
    else taken (s.withConveyor emptied).tellTruckFull := rfl
  rw [hready, htold, State.startBelt_eq, State.withConveyor_tellCause]
  split
  · simp only [State.withConveyor_again, State.withConveyor_conveyor, State.withConveyor_station, State.tellCause_station]
  · rfl

theorem State.pressureHigh_iff : s.pressureHigh = true ↔
    ∃ p, s.beltPressure = some p ∧ (s.station.geometry.blockPressure : Int) ≤ p := by
  unfold State.pressureHigh
  cases s.beltPressure <;> simp

theorem clearBlock_eq : clearBlock p s =
    if s.conveyor.state ≠ .blocked then refuse .wrongState s
    else if s.pressureHigh then refuse .wrongState s
    else taken ((s.withConveyor (s.conveyor.stand .stopped)).tellCause .beltBlocked false) := rfl

end

/-- Settles O46: each request by the conveyor's state. -/
theorem conveyorRequestsMoveTheBelt : Obligations.ConveyorRequestsMoveTheBelt := by
  intro i r row s hserved c g running standing done wrong
  have hrunning (k : Conveyor) (hmode : k.beltMode = c.beltMode ∧ k.fixedSpeed = c.fixedSpeed ∧
      k.neededSpeed = c.neededSpeed) : k.enterRunning g.beltMin = running k := by
    obtain ⟨h1, h2, h3⟩ := hmode
    rw [Conveyor.enterRunning_eq]
    exact congrArg (fun v => ({ k with state := .running, runOnSpeed := none, runOnCount := 0, beltSpeed := v } : Conveyor))
      (by rw [h1, h2, h3])
  have hstart : s.popped.startBelt = s.popped.withConveyor (running c) := by
    rw [State.startBelt_eq]
    exact congrArg s.popped.withConveyor (hrunning c ⟨rfl, rfl, rfl⟩)
  let p := r.body.take row.size
  refine ⟨?_, ?_, ?_, ?_, ?_, ?_⟩
  · rintro rfl
    refine ⟨fun h => exec_taken hserved ?_, fun h => exec_taken hserved (conveyorStart_runs p h),
      fun h => exec_refused hserved (conveyorStart_wrong p h)⟩
    exact (conveyorStart_starts (s := s.popped) p h).trans (congrArg taken hstart)
  · rintro rfl
    exact ⟨fun h => exec_taken hserved (conveyorStop_running p h), fun h => exec_taken hserved (conveyorStop_held p h),
      fun h => exec_taken hserved (conveyorStop_stands p h)⟩
  · rintro rfl
    exact ⟨fun h => exec_taken hserved (truckAway_turning p h), fun h => exec_taken hserved (truckAway_held p h),
      fun h => exec_refused hserved (truckAway_wrong p h)⟩
  · rintro rfl
    intro emptied
    refine exec_taken hserved ((truckReady_eq p).trans (congrArg (fun k => taken ((s.popped.withConveyor
      (if c.state = .held then k else emptied)).tellCause .truckFull false)) ?_))
    exact hrunning emptied ⟨rfl, rfl, rfl⟩
  · rintro rfl
    have hact := clearBlock_eq (s := s.popped) p
    refine ⟨fun h => exec_refused hserved (hact.trans (if_pos h)), fun h hhigh => exec_refused hserved ?_,
      fun h hlow => exec_taken hserved ?_⟩
    all_goals replace hact := hact.trans (if_neg (Classical.not_not.mpr h))
    · exact hact.trans (if_pos (State.pressureHigh_iff.mpr hhigh))
    · refine hact.trans (if_neg fun hhigh => ?_)
      obtain ⟨q, hq, hle⟩ := State.pressureHigh_iff.mp hhigh
      exact absurd hle (Int.not_le.mpr (hlow q hq))
  · rintro rfl
    exact exec_taken hserved rfl

/-! ### SET BELT MODE and SET TRUCK TARGET (R162, R167, R168) -/

/-- A belt mode taken: a running belt takes the mode's speed. -/
theorem State.takeBeltMode_eq (m : BeltMode) (fixed : Nat) (s : State) : s.takeBeltMode m fixed = s.withConveyor { s.conveyor with
    beltMode := m, fixedSpeed := fixed
    beltSpeed := if s.conveyor.state = .running
      then if m = .fixed then fixed else s.conveyor.neededSpeed.getD s.station.geometry.beltMin
      else s.conveyor.beltSpeed } := by
  rw [State.takeBeltMode, State.mapConveyor_eq]
  dsimp only
  rw [Conveyor.runningSpeed_eq]
  split <;> rfl

theorem beltModeOf_none {v : Nat} (h1 : v ≠ 1) (h2 : v ≠ 2) : beltModeOf v = none := by
  unfold beltModeOf
  split <;> simp_all

theorem setBeltMode_none {p : List Byte} (h : beltModeOf (fieldAt p 0 1) = none) (s : State) :
    setBeltMode p s = refuse .outOfRange s := by
  simp only [setBeltMode, h]

theorem setBeltMode_auto {p : List Byte} (h : beltModeOf (fieldAt p 0 1) = some .auto) (s : State) :
    setBeltMode p s = (s.takeBeltMode .auto s.conveyor.fixedSpeed,
      doneWith (byteOf BeltMode.auto.code ++ beBytes 2 s.conveyor.fixedSpeed)) := by
  simp only [setBeltMode, h]

theorem setBeltMode_fixed {p : List Byte} (h : beltModeOf (fieldAt p 0 1) = some .fixed) (s : State) :
    let stored := bringWithinNat s.station.geometry.beltMin s.station.geometry.beltMax (fieldAt p 1 2)
    setBeltMode p s = (s.takeBeltMode .fixed stored,
      ⟨if stored = fieldAt p 1 2 then .done else .clamped, byteOf BeltMode.fixed.code ++ beBytes 2 stored, none⟩) := by
  simp only [setBeltMode, h]

/-- A truck target stored: the truck judged full against it, and a turning belt held where that is on. -/
theorem setTruckTarget_eq (p : List Byte) (s : State) :
    let stored := (bringWithin 0 40000 (signedAt p 0 4)).toNat
    let c : Conveyor := { s.conveyor with truckTarget := stored }
    let full : Bool := 0 < stored && stored * 100 ≤ c.truckCounter
    setTruckTarget p s = ((s.tellCause .truckFull full).withConveyor
      (if full = true ∧ s.station.geometry.holdOnFull = true ∧ (c.state = .running ∨ c.state = .runOn)
        then c.stand .held else c),
      ⟨if (stored : Int) = signedAt p 0 4 then .done else .clamped, beBytes 2 stored, none⟩) := by
  intro stored c full
  have htold : (s.withConveyor c).tellTruckFull = (s.tellCause .truckFull full).withConveyor c :=
    State.withConveyor_tellCause ..
  have hset : setTruckTarget p s = ((s.withConveyor c).tellTruckFull.truckDecision,
      ⟨if (stored : Int) = signedAt p 0 4 then .done else .clamped, beBytes 2 stored, none⟩) := rfl
  rw [hset, htold, State.truckDecision_eq, State.tellCause_station]

/-- Settles O47. -/
theorem beltModesAndTruckTargetsAreSet : Obligations.BeltModesAndTruckTargetsAreSet := by
  refine ⟨fun r row s hserved => ?_, fun r row s hserved => ?_⟩
  · intro p v w c g stored out
    refine ⟨fun h1 h2 => exec_refused hserved (setBeltMode_none (beltModeOf_none h1 h2) _), fun h => ?_, fun h => ?_⟩
    · have hmode : beltModeOf (fieldAt p 0 1) = some .auto := by
        rw [show fieldAt p 0 1 = 1 from h]
        rfl
      have hact : requestAct (.setBeltMode r) p s.popped = _ := setBeltMode_auto hmode s.popped
      rw [exec_served hserved, hact, State.takeBeltMode_eq]
      rfl
    · have hmode : beltModeOf (fieldAt p 0 1) = some .fixed := by
        rw [show fieldAt p 0 1 = 2 from h]
        rfl
      have hact : requestAct (.setBeltMode r) p s.popped = _ := setBeltMode_fixed hmode s.popped
      have hstatus : (if stored = w then Status.done else .clamped) =
          if g.beltMin ≤ w ∧ w ≤ g.beltMax then .done else .clamped := by
        refine ite_congr (propext ?_) (fun _ => rfl) (fun _ => rfl)
        unfold stored
        split
        · omega
        · split <;> omega
      rw [exec_served hserved, hact, State.takeBeltMode_eq, ← hstatus]
      rfl
  · intro carried stored c full stops
    have hstored : (bringWithin 0 40000 carried).toNat = stored := by
      unfold bringWithin stored
      split
      · rfl
      · split <;> rfl
    have hstatus : (if (stored : Int) = carried then Status.done else .clamped) =
        if 0 ≤ carried ∧ carried ≤ 40000 then .done else .clamped := by
      refine ite_congr (propext ?_) (fun _ => rfl) (fun _ => rfl)
      unfold stored
      split
      · omega
      · split <;> omega
    have hact : requestAct (.setTruckTarget r) (r.body.take row.size) s.popped =
        ((s.popped.tellCause .truckFull full).withConveyor (if stops then c.stand .held else c),
          ⟨if 0 ≤ carried ∧ carried ≤ 40000 then .done else .clamped, beBytes 2 stored, none⟩) := by
      have h := setTruckTarget_eq (r.body.take row.size) s.popped
      dsimp only at h
      rw [show signedAt (r.body.take row.size) 0 4 = carried from rfl, hstored, hstatus] at h
      exact h
    rw [exec_served hserved, hact, ← State.withConveyor_tellCause]
    rfl

end Sys2Proof.Machine
end

section
/-! What leaves the part and what its link timers do (O52); PRESENCE, RESTART and what a held reset leaves (O53). -/
namespace Sys2Proof.Machine

/-! ### The events of the links (R190 to R193, R196) -/

section
variable {s : State}

/-- The part of the status broadcast that one side gives. -/
theorem State.sideStatus_eq (x : Side) (s : State) :
    let d := s.side x
    s.sideStatus x =
      [BitVec.ofNat 8 d.state.code, BitVec.ofNat 8 d.context.source.code, BitVec.ofNat 8 d.context.basis.code] ++
        intBytes 2 (if d.context.basis = .depth then d.context.depthTarget else d.context.slopeTarget) ++
        intBytes 2 ((s.measuredDepth x).getD (-32768)) ++ intBytes 2 d.demand := by
  intro d
  have htarget : (match d.context.basis with | .depth => d.context.depthTarget | .slope => d.context.slopeTarget) =
      if d.context.basis = .depth then d.context.depthTarget else d.context.slopeTarget := by
    cases d.context.basis <;> rfl
  rw [State.sideStatus, byteOf_eq, byteOf_eq, byteOf_eq, ← htarget]
  rfl

/-- The supervision of CONSOLE runs out with a side in AUTO, or starts again. -/
theorem State.expireSupervision_auto (h : s.link.supervision ≠ none) (hauto : s.anyAuto = true) :
    s.expireSupervision = ({ s with link := { s.link with supervision := none, linkLoss := true } } : State).tellCause
      .linkLost true := by
  rw [State.expireSupervision, if_neg (by simpa using h), if_pos hauto]
  rfl

theorem State.expireSupervision_idle (h : s.link.supervision ≠ none) (hauto : ¬ s.anyAuto = true) :
    s.expireSupervision = { s with link := { s.link with supervision := some 1500 } } := by
  rw [State.expireSupervision, if_neg (by simpa using h), if_neg hauto]
  rfl

/-- The frames the transmitters would send. -/
theorem State.planLinkSends_eq (s : State) : s.planLinkSends = match s.link.broadcast, s.link.response with
    | some d, _ => some ⟨true, 0x380, d⟩
    | none, some m => some ⟨true, responseIdent m.requester, m.data⟩
    | none, none => none := by
  obtain ⟨d, hd, hsends⟩ | ⟨hd, hsends⟩ := s.planLinkSends_cases
  · rw [hsends, hd]
  · rw [hsends, hd, State.responseFrame]
    cases s.link.response <;> rfl

/-- Settles O52. -/
theorem linkEventsEmptyTheSlots : Obligations.LinkEventsEmptyTheSlots := by
  intro s hrun
  have hexec {i : Instr} {t : State} (h : exec i s = .next (s.whileRunning t)) : exec i s = .next t := by
    rw [h, State.whileRunning_running hrun]
  refine ⟨?_, ?_, fun hbroadcast => ?_, hexec rfl, hexec rfl, ?_, ?_⟩
  · intro ident
    have hident : ∀ q, responseIdent q = ident q := fun q => by cases q <;> rfl
    refine ⟨s.planLinkSends_eq.trans ?_, rfl⟩
    cases s.link.broadcast with
    | some d => rfl
    | none =>
      cases s.link.response with
      | none => rfl
      | some m => exact congrArg (fun n => some (⟨true, n, m.data⟩ : SentFrame)) (hident m.requester)
  · rintro i (⟨rfl, hempty⟩ | rfl)
    · obtain ⟨hfull, -⟩ | ⟨-, hsent⟩ := s.sendResponse_cases
      · exact absurd hempty hfull
      · rw [← State.responseGone_eq, ← hsent]
        exact hexec rfl
    · rw [← State.responseGone_eq]
      exact hexec rfl
  · obtain ⟨-, hsent⟩ | ⟨hnone, -⟩ := s.sendResponse_cases
    · exact (hexec rfl : exec .responseSent s = .next s.sendResponse).trans (congrArg _ hsent)
    · exact absurd hnone hbroadcast
  · intro block
    obtain ⟨hlatch, hlength, hlt⟩ := s.noticeSet_spec NoticeRecord.latch
    refine ⟨_, hlength, hlt, hlatch, (hexec rfl : exec .statusBroadcast s = .next s.formBroadcast).trans ?_⟩
    refine congrArg (fun d => Host.Outcome.next ({ s with link := { s.link with
      broadcast := some d, broadcastCount := s.link.broadcastCount + 1, broadcastTimer := 100 } } : State)) ?_
    rw [State.statusBytes, State.sideStatus_eq, State.sideStatus_eq, flagBytes_eq]
    simp only [byteOf_eq, List.append_assoc, List.cons_append, List.nil_append] <;> rfl
  · intro auto
    have hauto : s.anyAuto = true ↔ auto := by
      rw [State.anyAuto, Bool.or_eq_true, decide_eq_true_eq, decide_eq_true_eq]
    have hexpiry : exec .supervisionExpiry s = .next s.expireSupervision := hexec rfl
    refine ⟨fun h => hexpiry.trans (congrArg _ (if_pos ?_)),
      fun h ha => hexpiry.trans (congrArg _ (State.expireSupervision_auto h (hauto.mpr ha))),
      fun h ha => hexpiry.trans (congrArg _ (State.expireSupervision_idle h (mt hauto.mp ha)))⟩
    rw [h]
    rfl

end

/-! ### PRESENCE, RESTART and a held reset (R194, R197, R198) -/

/-- While a reset is held a command that begins or releases none changes nothing. -/
theorem exec_held {i : Instr} {s : State} (hheld : s.heldReset ≠ none) (hassert : ∀ src, i ≠ .resetAssert src)
    (hcold : ∀ a b c d, i ≠ .coldResetRelease a b c d) (hwarm : ∀ a b, i ≠ .warmResetRelease a b) :
    exec i s = .next s := by
  cases hrow : requestRow i with
  | some rowr =>
    obtain ⟨row, r⟩ := rowr
    rw [exec_serve hrow, serve_waits (State.takeFrame_eq_none (.inl hheld))]
  | none =>
    by_cases hrestart : i = .restartResetStart
    · subst hrestart
      exact congrArg Host.Outcome.next (State.whileRunning_held hheld)
    · obtain ⟨t, hexec, -⟩ := commandsCompleteAndKeepTheQueue i s
      obtain rfl | ⟨hrun, -⟩ | hreset := exec_event_cases hrow hexec
      · exact hexec
      · exact absurd hrun hheld
      · cases hreset with
        | asserted => exact absurd rfl (hassert _)
        | restarted => exact absurd rfl hrestart
        | coldReleased => exact absurd rfl (hcold _ _ _ _)
        | warmReleased => exact absurd rfl (hwarm _ _)

/-- Settles O53. -/
theorem resetsHoldThePart : Obligations.ResetsHoldThePart := by
  refine ⟨fun r row s => ⟨fun hserved => exec_taken hserved rfl, fun hserved => exec_taken hserved rfl⟩, ?_,
    fun i s => exec_held, fun s x => ⟨fun h => ?_, fun h => ?_⟩⟩
  · intro held s
    have hhold : ∀ kind, s.hold kind = held kind s := fun _ => rfl
    have hpin : resetKindAfter .resetPin s.heldReset = if s.heldReset = some .cold then .cold else .warm := by
      rcases s.heldReset with _ | _ | _ <;> rfl
    have hdue : (s.link.restartTaken && s.link.response.isNone) = true ↔
        s.link.restartTaken = true ∧ s.link.response = none := by
      rw [Bool.and_eq_true, Option.isNone_iff_eq_none]
    have hstart : exec .restartResetStart s = .next (s.whileRunning
        (if s.link.restartTaken && s.link.response.isNone then s.hold .warm else s)) := rfl
    refine ⟨rfl, ?_, fun hrun htaken hempty => ?_, fun h => ?_⟩
    · rw [← hhold, ← hpin]
      rfl
    · rw [hstart, State.whileRunning_running hrun, if_pos (hdue.mpr ⟨htaken, hempty⟩), hhold]
    · by_cases hrun : s.heldReset = none
      · have hnot : ¬ (s.link.restartTaken = true ∧ s.link.response = none) := fun ⟨htaken, hempty⟩ => by
          simp [hrun, htaken, hempty] at h
        rw [hstart, State.whileRunning_running hrun, if_neg (mt hdue.mp hnot)]
      · rw [hstart, State.whileRunning_held hrun]
  · have hsome : s.heldReset.isSome = true := Option.isSome_iff_ne_none.mpr h
    exact ⟨if_pos hsome, if_pos hsome⟩
  · have hnone : ¬ s.heldReset.isSome = true := by simp [h]
    exact ⟨if_neg hnone, if_neg hnone⟩

end Sys2Proof.Machine
end
